-- ==== Sys2Proof/Word.lean ====
section
/-! DEFINITION. The widths of the machine (00_scope.md R5): bytes, words, doublewords and the fields of an instruction word
(30_encoding.md R91). -/

namespace Sys2Proof

/-- One byte of memory (20_memory.md R60). -/
abbrev Byte := BitVec 8

/-- A general register, HI, LO, pc, an address, an instruction word: 32 bits (00_scope.md R5, XLEN). -/
abbrev Word := BitVec 32

/-- A double-precision pattern, a 64-bit product or accumulator. -/
abbrev DWord := BitVec 64

/-- A register number, a shift amount or a hint: a 5-bit field (30_encoding.md R91). -/
abbrev Reg := BitVec 5

/-- A coprocessor 1 condition flag number 0 to 7 (10_state.md R31). -/
abbrev CondFlag := BitVec 3

/-- The 16-bit immediate, offset or branch distance (30_encoding.md R91). -/
abbrev Imm16 := BitVec 16

/-- The low 32 bits of an exact integer, two's complement: the pseudocode's `mod 2^32` (00_scope.md R10). -/
def wordOfInt (n : Int) : Word := BitVec.ofInt 32 n

end Sys2Proof
end

