-- ==== Sys2Proof/Config.lean ====
section
/-! DEFINITION. What the spec leaves open and fixes nowhere: the parameter CVT_W_MODE and the free values. Each is a constant
WITHOUT A BODY, so that no proof can see which value it is. One more such
constant, Config.envAnswer, stands in Machine/Env.lean, because its type names State. The launch parameters of 00_scope.md R5 are no
constants: they are fields of State (Machine/Launch.lean). -/

namespace Sys2Proof

/-- The two named candidates of the open parameter CVT_W_MODE (46_fp_compare_convert_move.md R306). -/
inductive CvtWMode where
  /-- round to nearest even; NaN and out of range give 0x7FFFFFFF -/
  | mips32
  /-- toward zero; NaN gives 0, out of range saturates -/
  | mars
deriving DecidableEq, Repr, Inhabited

/-- CVT_W_MODE, left OPEN by R306: one of the two candidates, and nothing says which. Log 7. -/
opaque Config.cvtWMode : CvtWMode

/-- The free 32-bit values drawn for HI and LO after a division by zero (41_multiply_divide.md R161), by draw number. Log 5. -/
opaque Config.freeWord : Nat → Word

/-- The raw bits behind a free single-precision NaN (45_fp_arithmetic.md R263, R265), by draw number. Log 6. -/
opaque Config.freeSingle : Nat → Word

/-- The raw bits behind a free double-precision NaN (45_fp_arithmetic.md R263, R265), by draw number. Log 6. -/
opaque Config.freeDouble : Nat → DWord

end Sys2Proof
end

