-- ==== Sys2Proof/Machine/FpNum.lean ====
section
/-! DEFINITION. The floating-point numerics FPNUM (45_fp_arithmetic.md R260 to R264, 46_fp_compare_convert_move.md R291, R292,
R306): IEEE 754 binary32 and binary64, exact results rounded to nearest, ties to even. -/

namespace Sys2Proof.Machine

/-- A binary format: the widths of the exponent and of the fraction (45_fp_arithmetic.md R260). -/
structure FpFormat where
  expBits : Nat
  fracBits : Nat
deriving DecidableEq, Repr

/-- binary32: 1 + 8 + 23 bits (45_fp_arithmetic.md R260). -/
def single : FpFormat := ⟨8, 23⟩

/-- binary64: 1 + 11 + 52 bits (45_fp_arithmetic.md R260). -/
def double : FpFormat := ⟨11, 52⟩

/-- What a pattern encodes: a NaN, an infinity, or the number (-1)^neg * m * 2^e (a zero has m = 0). -/
inductive FpVal where
  | nan
  | inf (neg : Bool)
  | fin (neg : Bool) (m : Nat) (e : Int)
deriving DecidableEq, Repr

/-- The exponent of the last place of the denormals, the smallest there is: -149, -1074. -/
def FpFormat.minExp (f : FpFormat) : Int := 2 - 2 ^ (f.expBits - 1) - f.fracBits

/-- The exponent field of the infinities and NaNs: all ones. -/
def FpFormat.maxField (f : FpFormat) : Nat := 2 ^ f.expBits - 1

/-- The sign bit as a number. -/
def FpFormat.signBit (f : FpFormat) (neg : Bool) : Nat := if neg then 2 ^ (f.expBits + f.fracBits) else 0

/-- The pattern of an infinity (45_fp_arithmetic.md R260). -/
def FpFormat.infBits (f : FpFormat) (neg : Bool) : Nat := f.signBit neg + f.maxField * 2 ^ f.fracBits

/-- `b32`, `b64`: the value a pattern encodes (45_fp_arithmetic.md R260). -/
def FpFormat.decode (f : FpFormat) (bits : Nat) : FpVal :=
  let neg := bits / 2 ^ (f.expBits + f.fracBits) % 2 == 1
  let field := bits / 2 ^ f.fracBits % 2 ^ f.expBits
  let frac := bits % 2 ^ f.fracBits
  if field = f.maxField then (if frac = 0 then .inf neg else .nan)
  else if field = 0 then .fin neg frac f.minExp
  else .fin neg (2 ^ f.fracBits + frac) (f.minExp + (field - 1 : Nat))

/-- `m / 2^k` to the nearest integer, ties to even, for `k ≥ 1`; `sticky` says that the exact number is a little more than `m`
(45_fp_arithmetic.md R261). -/
def roundNearestEven (m k : Nat) (sticky : Bool) : Nat :=
  let q := m / 2 ^ k
  let r := m % 2 ^ k
  let half := 2 ^ (k - 1)
  if r > half || (r == half && (sticky || q % 2 == 1)) then q + 1 else q

/-- `enc32`, `enc64` of the number (-1)^neg * m * 2^e, `m` not 0: rounded to nearest even, gradual underflow, infinity past the
largest finite number (45_fp_arithmetic.md R260, R261). `sticky` says that the exact magnitude lies strictly between `m` and
`m + 1` times 2^e; then `m` has at least two bits more than the format's precision. -/
def FpFormat.encode (f : FpFormat) (neg : Bool) (m : Nat) (e : Int) (sticky : Bool) : Nat :=
  let ulp : Int := max (e + (Nat.log2 m + 1 : Nat) - (f.fracBits + 1 : Nat)) f.minExp
  let q := if ulp ≤ e then m * 2 ^ (e - ulp).toNat else roundNearestEven m (ulp - e).toNat sticky
  let mag := (ulp - f.minExp).toNat * 2 ^ f.fracBits + q
  f.signBit neg + min mag (f.maxField * 2 ^ f.fracBits)

/-- The number (-1)^neg * m * 2^e in the format, a zero keeping its sign. -/
def FpFormat.ofFin (f : FpFormat) (neg : Bool) (m : Nat) (e : Int) : Nat :=
  if m = 0 then f.signBit neg else f.encode neg m e false

/-- An operation's result: the pattern, or `none` for some NaN (45_fp_arithmetic.md R263). -/
abbrev FpResult := Option Nat

/-- The value with its sign inverted. -/
def FpVal.negate : FpVal → FpVal
  | .nan => .nan
  | .inf n => .inf (!n)
  | .fin n m e => .fin (!n) m e

/-- `(-1)^neg * m` as an integer. -/
def signedMant (neg : Bool) (m : Nat) : Int := if neg then -(m : Int) else m

/-- Addition (45_fp_arithmetic.md R261, R262, R264). -/
def FpFormat.add (f : FpFormat) : FpVal → FpVal → FpResult
  | .nan, _ => none
  | _, .nan => none
  | .inf a, .inf b => if a = b then some (f.infBits a) else none
  | .inf a, .fin _ _ _ => some (f.infBits a)
  | .fin _ _ _, .inf b => some (f.infBits b)
  | .fin a m e, .fin b n g =>
    let k := min e g
    let sum := signedMant a (m * 2 ^ (e - k).toNat) + signedMant b (n * 2 ^ (g - k).toNat)
    some (if sum = 0 then f.signBit (a && b) else f.encode (decide (sum < 0)) sum.natAbs k false)

/-- Subtraction: the sum with the second operand's sign inverted (45_fp_arithmetic.md R264). -/
def FpFormat.sub (f : FpFormat) (a b : FpVal) : FpResult := f.add a b.negate

/-- Multiplication (45_fp_arithmetic.md R261, R262, R264). -/
def FpFormat.mul (f : FpFormat) : FpVal → FpVal → FpResult
  | .nan, _ => none
  | _, .nan => none
  | .inf a, .inf b => some (f.infBits (a ^^ b))
  | .inf a, .fin b n _ => if n = 0 then none else some (f.infBits (a ^^ b))
  | .fin a m _, .inf b => if m = 0 then none else some (f.infBits (a ^^ b))
  | .fin a m e, .fin b n g => some (f.ofFin (a ^^ b) (m * n) (e + g))

/-- Division (45_fp_arithmetic.md R261, R262, R264): the quotient is cut with enough bits for its rounding, a remainder left
over being the sticky bit. -/
def FpFormat.div (f : FpFormat) : FpVal → FpVal → FpResult
  | .nan, _ => none
  | _, .nan => none
  | .inf _, .inf _ => none
  | .inf a, .fin b _ _ => some (f.infBits (a ^^ b))
  | .fin a _ _, .inf b => some (f.signBit (a ^^ b))
  | .fin a m e, .fin b n g =>
    if n = 0 then (if m = 0 then none else some (f.infBits (a ^^ b)))
    else if m = 0 then some (f.signBit (a ^^ b))
    else
      let k := 2 * f.fracBits + 5
      some (f.encode (a ^^ b) (m * 2 ^ k / n) (e - g - (k : Nat)) (m * 2 ^ k % n != 0))

/-- The bits `i - 1`, …, 0 of the integer square root of `n`, the higher ones being `r`. -/
def isqrtFrom (n : Nat) : Nat → Nat → Nat
  | 0, r => r
  | i + 1, r => isqrtFrom n i (if (r + 2 ^ i) * (r + 2 ^ i) ≤ n then r + 2 ^ i else r)

/-- The integer square root of a number below 2^(2 i). -/
def isqrt (n i : Nat) : Nat := isqrtFrom n i 0

/-- Square root, correctly rounded (45_fp_arithmetic.md R261, R262, R264). -/
def FpFormat.sqrt (f : FpFormat) : FpVal → FpResult
  | .nan => none
  | .inf n => if n then none else some (f.infBits false)
  | .fin n m e =>
    if m = 0 then some (f.signBit n)
    else if n then none
    else
      let k := f.fracBits + 3
      let odd := (e % 2).toNat
      let wide := m * 2 ^ (2 * k + odd)
      let r := isqrt wide (2 * f.fracBits + 6)
      some (f.encode false r ((e - odd) / 2 - (k : Nat)) (r * r != wide))

/-- A value in another format: `cvt.s.d`, `cvt.d.s` (46_fp_compare_convert_move.md R302, R304). -/
def FpFormat.convert (f : FpFormat) : FpVal → FpResult
  | .nan => none
  | .inf n => some (f.infBits n)
  | .fin n m e => some (f.ofFin n m e)

/-- An integer in a format: `cvt.s.w`, `cvt.d.w` (46_fp_compare_convert_move.md R303, R305). -/
def FpFormat.ofInt (f : FpFormat) (v : Int) : Nat := f.ofFin (decide (v < 0)) v.natAbs 0

/-- The exact values of two numbers, scaled to integers by one power of two. -/
def scaled (a : Bool) (m : Nat) (e : Int) (b : Bool) (n : Nat) (g : Int) : Int × Int :=
  (signedMant a (m * 2 ^ (e - min e g).toNat), signedMant b (n * 2 ^ (g - min e g).toNat))

/-- The four directions of R292. -/
inductive RoundDir where
  | nearestEven | towardZero | towardPosInf | towardNegInf
deriving DecidableEq, Repr

/-- The number (-1)^neg * m * 2^e rounded to an integer, exactly (46_fp_compare_convert_move.md R292). -/
def roundToInt (dir : RoundDir) (neg : Bool) (m : Nat) (e : Int) : Int :=
  if 0 ≤ e then signedMant neg (m * 2 ^ e.toNat)
  else
    let k := (-e).toNat
    let up := m % 2 ^ k != 0
    match dir with
    | .nearestEven => signedMant neg (roundNearestEven m k false)
    | .towardZero => signedMant neg (m / 2 ^ k)
    | .towardPosInf => signedMant neg (if up && !neg then m / 2 ^ k + 1 else m / 2 ^ k)
    | .towardNegInf => signedMant neg (if up && neg then m / 2 ^ k + 1 else m / 2 ^ k)

/-- `to_word(v, dir)` (46_fp_compare_convert_move.md R292). -/
def toWord (dir : RoundDir) : FpVal → Word
  | .nan => 0x7FFFFFFF
  | .inf _ => 0x7FFFFFFF
  | .fin neg m e =>
    let n := roundToInt dir neg m e
    if n < -2 ^ 31 ∨ 2 ^ 31 - 1 < n then 0x7FFFFFFF else wordOfInt n

/-- `cvt_word` under CVT_W_MODE = mips32 (46_fp_compare_convert_move.md R306). -/
def cvtWordMips (v : FpVal) : Word := toWord .nearestEven v

/-- `cvt_word` under CVT_W_MODE = mars (46_fp_compare_convert_move.md R306). -/
def cvtWordMars : FpVal → Word
  | .nan => 0
  | .inf neg => if neg then 0x80000000 else 0x7FFFFFFF
  | .fin neg m e =>
    let n := roundToInt .towardZero neg m e
    if 2 ^ 31 - 1 < n then 0x7FFFFFFF else if n < -2 ^ 31 then 0x80000000 else wordOfInt n

/-- `cvt_word` of one of the two candidates (46_fp_compare_convert_move.md R306). -/
def cvtWordBy (mode : CvtWMode) (v : FpVal) : Word :=
  match mode with
  | .mips32 => cvtWordMips v
  | .mars => cvtWordMars v

/-- `cvt_word` (46_fp_compare_convert_move.md R306): the common value where the two candidates agree; elsewhere the OPEN
parameter CVT_W_MODE decides. Log 7. -/
def cvtWord (v : FpVal) : Word :=
  if cvtWordMips v = cvtWordMars v then cvtWordMips v else cvtWordBy Config.cvtWMode v

/-- The value of a single-precision pattern, `b32`. -/
def b32 (v : Word) : FpVal := single.decode v.toNat

/-- The value of a double-precision pattern, `b64`. -/
def b64 (v : DWord) : FpVal := double.decode v.toNat

/-- A single-precision pattern that is a NaN (45_fp_arithmetic.md R260). -/
def isNan32 (v : Word) : Bool := b32 v == .nan

/-- A double-precision pattern that is a NaN (45_fp_arithmetic.md R260). -/
def isNan64 (v : DWord) : Bool := b64 v == .nan

/-- A single-precision NaN from any bits: exponent all ones, the fraction kept, or 1 where it is 0. Every NaN pattern is the
image of itself, so no NaN is ruled out (45_fp_arithmetic.md R263). Log 6. -/
def nan32Of (raw : Word) : Word :=
  (if raw &&& 0x007FFFFF = 0 then raw ||| 1 else raw) ||| 0x7F800000

/-- A double-precision NaN from any bits, as `nan32Of`. Log 6. -/
def nan64Of (raw : DWord) : DWord :=
  (if raw &&& 0x000FFFFFFFFFFFFF = 0 then raw ||| 1 else raw) ||| 0x7FF0000000000000

/-- A result as a single-precision pattern. -/
def asSingle (r : FpResult) : Option Word := r.map (BitVec.ofNat 32)

/-- A result as a double-precision pattern. -/
def asDouble (r : FpResult) : Option DWord := r.map (BitVec.ofNat 64)

/-- `abs` of a single: the sign bit cleared, some NaN for a NaN (45_fp_arithmetic.md R265). -/
def abs32 (v : Word) : Option Word := if isNan32 v then none else some (v &&& 0x7FFFFFFF)

/-- `abs` of a double (45_fp_arithmetic.md R265). -/
def abs64 (v : DWord) : Option DWord := if isNan64 v then none else some (v &&& 0x7FFFFFFFFFFFFFFF)

/-- `neg` of a single: the sign bit inverted, some NaN for a NaN (45_fp_arithmetic.md R265). -/
def neg32 (v : Word) : Option Word := if isNan32 v then none else some (v ^^^ 0x80000000)

/-- `neg` of a double (45_fp_arithmetic.md R265). -/
def neg64 (v : DWord) : Option DWord := if isNan64 v then none else some (v ^^^ 0x8000000000000000)

end Sys2Proof.Machine
end

