-- ==== Sys2Proof/Machine/Operands.lean ====
section
/-! DEFINITION. The operand forms: immediates, shift amounts, targets, bit counts (30_encoding.md R94 to R100). -/

namespace Sys2Proof.Machine

/-- `sext_32(imm16)` (30_encoding.md R94). -/
def sext (imm : Imm16) : Word := imm.signExtend 32

/-- `zext_32(imm16)` (30_encoding.md R95). -/
def zext (imm : Imm16) : Word := imm.setWidth 32

/-- `imm16 ++ 0x0000` (30_encoding.md R96). -/
def upper (imm : Imm16) : Word := imm ++ 0#16

/-- The shift amount in a register: its low-order 5 bits (30_encoding.md R97). -/
def shiftAmount (v : Word) : Nat := (v.extractLsb' 0 5).toNat

/-- A branch target, from the address of the branch (30_encoding.md R98, 42_branch_jump.md R181). -/
def branchTarget (pc : Word) (imm : Imm16) : Word := pc + 4 + (sext imm <<< 2)

/-- A `j` or `jal` target: `(pc + 4)[31:28] ++ instr_index ++ 00` (30_encoding.md R99). -/
def jumpTarget (pc : Word) (index : BitVec 26) : Word := (pc + 4).extractLsb' 28 4 ++ index ++ 0#2

/-- Left shift (40_integer_alu.md R123). -/
def shiftLeft (v : Word) (n : Nat) : Word := v <<< n

/-- Logical right shift (40_integer_alu.md R123). -/
def shiftRightLogical (v : Word) (n : Nat) : Word := v >>> n

/-- Arithmetic right shift: copies of bit 31 enter at the top (40_integer_alu.md R123). -/
def shiftRightArith (v : Word) (n : Nat) : Word := v.sshiftRight n

/-- How many of the bits `k - 1`, `k - 2`, … of `v` equal `bit` before the first that does not (R131, R132). -/
def leadingFrom (bit : Bool) (v : Word) : Nat → Nat
  | 0 => 0
  | k + 1 => if v.getLsbD k = bit then 1 + leadingFrom bit v k else 0

/-- The count of leading bits equal to `bit`, 0 to 32 (40_integer_alu.md R131, R132). -/
def countLeading (bit : Bool) (v : Word) : Word := BitVec.ofNat 32 (leadingFrom bit v 32)

/-- The exact product of two signed words, 64 bits (41_multiply_divide.md R160). -/
def signedProduct (a b : Word) : DWord := BitVec.ofInt 64 (a.toInt * b.toInt)

/-- The exact product of two unsigned words, 64 bits (41_multiply_divide.md R160). -/
def unsignedProduct (a b : Word) : DWord := BitVec.ofNat 64 (a.toNat * b.toNat)

/-- A register with the high-order `b + 1` bytes taken from the low-order bytes of the word `m` (43_load_store.md R202, lwl). -/
def mergeLeft (m r : Word) (b : Nat) : Word :=
  (m <<< (8 * (3 - b))) ||| (r &&& BitVec.ofNat 32 (2 ^ (8 * (3 - b)) - 1))

/-- A register with the low-order `4 - b` bytes taken from the high-order bytes of the word `m` (43_load_store.md R202, lwr). -/
def mergeRight (m r : Word) (b : Nat) : Word :=
  (r &&& ~~~(BitVec.ofNat 32 (2 ^ (8 * (4 - b)) - 1))) ||| (m >>> (8 * b))

/-- A register number in a double-precision position must be even (10_state.md R36). -/
def isEven (r : Reg) : Bool := r.toNat % 2 == 0

end Sys2Proof.Machine
end

