-- ==== Sys2Proof/Machine/Launch.lean ====
section
/-! DEFINITION. The launch parameters of 00_scope.md R5 that the loader fixes for a run (70_reset_and_hazards.md R381): the
memory map, SELF_MOD, the program images, END and EXC_HANDLER, with the spec's defaults. No instruction changes them. -/

namespace Sys2Proof.Machine

/-- One range of MEMMAP (20_memory.md R70): addresses `first` to `last`, both included. `text` marks the text segments, which
a store may write only under SELF_MOD (R77). -/
structure Region where
  first : Nat
  last : Nat
  readable : Bool
  writable : Bool
  text : Bool
deriving DecidableEq, Repr

/-- One loaded image: `words` instruction words from the byte address `base` (70_reset_and_hazards.md R381). -/
structure Image where
  base : Word
  words : Nat
deriving DecidableEq, Repr

/-- What the loader fixes before the first step (00_scope.md R5). -/
structure Launch where
  /-- MEMMAP, the ranges (20_memory.md R70) -/
  memMap : List Region
  /-- SELF_MOD (20_memory.md R77) -/
  selfMod : Bool
  /-- MEMMAP.text, the loaded images (20_memory.md R70) -/
  images : List Image
  /-- END (70_reset_and_hazards.md R386) -/
  endPc : Word
  /-- EXC_HANDLER (60_exceptions.md R350) -/
  excHandler : Option Word
deriving DecidableEq, Repr

/-- The range holds the byte address. -/
def Region.holds (r : Region) (a : Nat) : Bool := r.first ≤ a && a ≤ r.last

/-- The word containing the byte address is an instruction of the image. -/
def Image.holds (i : Image) (a : Nat) : Bool := i.base.toNat ≤ a && a < i.base.toNat + 4 * i.words

/-- `readable(a)` (20_memory.md R70). -/
def Launch.readable (l : Launch) (a : Nat) : Bool :=
  a < 2 ^ 32 && l.memMap.any fun r => r.holds a && r.readable

/-- The map's own writable ranges: data memory (20_memory.md R70). -/
def Launch.dataWritable (l : Launch) (a : Nat) : Bool :=
  a < 2 ^ 32 && l.memMap.any fun r => r.holds a && r.writable

/-- `writable(a)`: data memory, and with SELF_MOD the text ranges too (20_memory.md R70, R77). The marks of the ranges alone decide:
in a launch that R381's loader never makes (an image outside the text ranges, or a range marked both text and writable) a store
may write fetched words although SELF_MOD is false. DESIGN CHOICE, log 13. -/
def Launch.writable (l : Launch) (a : Nat) : Bool :=
  l.dataWritable a || (l.selfMod && a < 2 ^ 32 && l.memMap.any fun r => r.holds a && r.text)

/-- `text(a)`: an instruction of a loaded image is stored at the word containing `a` (20_memory.md R70). -/
def Launch.isText (l : Launch) (a : Nat) : Bool := l.images.any fun i => i.holds a

/-- Every one of the `n` bytes from `a` is readable (20_memory.md R71). -/
def Launch.allReadable (l : Launch) (a n : Nat) : Bool := (List.range n).all fun k => l.readable (a + k)

/-- Every one of the `n` bytes from `a` is writable (20_memory.md R71). -/
def Launch.allWritable (l : Launch) (a n : Nat) : Bool := (List.range n).all fun k => l.writable (a + k)

/-- The default MEMMAP, the six rows of 20_memory.md R70. -/
def defaultMemMap : List Region :=
  [ ⟨0x00000000, 0x003FFFFF, false, false, false⟩,   -- nothing
    ⟨0x00400000, 0x0FFFFFFF, true, false, true⟩,     -- user text
    ⟨0x10000000, 0x7FFFFFFF, true, true, false⟩,     -- user data
    ⟨0x80000000, 0x8FFFFFFF, true, false, true⟩,     -- kernel text
    ⟨0x90000000, 0xFFFEFFFF, true, true, false⟩,     -- kernel data
    ⟨0xFFFF0000, 0xFFFFFFFF, false, false, false⟩ ]  -- memory-mapped I/O, not admitted

/-- The text base, where the program image starts and a run begins (10_state.md R51, 20_memory.md R70). -/
def textBase : Word := 0x00400000

/-- The launch parameters with the defaults of 00_scope.md R5 and no program loaded: END is then the address after the last
instruction of an empty image, the text base (log 3). -/
def defaultLaunch : Launch :=
  { memMap := defaultMemMap, selfMod := false, images := [], endPc := textBase, excHandler := none }

end Sys2Proof.Machine
end

