-- ==== Sys2Proof/Machine/Memory.lean ====
section
/-! DEFINITION. Memory (10_state.md R47, 20_memory.md R60, R61): bytes by address, in one canonical form, little-endian. -/

namespace Sys2Proof.Machine

/-- Memory as the list of its bytes that differ from what an unlisted address reads as, addresses strictly rising. -/
abbrev Memory := List Host.Cell

/-- What an unlisted address reads as: 0, the launch value of every byte the loader did not place (10_state.md R52,
20_memory.md R70). -/
def unlistedByte : Byte := 0

/-- `mem[a]` (20_memory.md R61). -/
def Memory.read : Memory → Nat → Byte
  | [], _ => unlistedByte
  | (b, v) :: m, a => if a = b then v else Memory.read m a

/-- `mem[a] <- v` (20_memory.md R61), keeping the canonical form. -/
def Memory.write : Memory → Nat → Byte → Memory
  | [], a, v => if v = unlistedByte then [] else [(a, v)]
  | (b, w) :: m, a, v =>
    if a < b then (if v = unlistedByte then (b, w) :: m else (a, v) :: (b, w) :: m)
    else if a = b then (if v = unlistedByte then m else (a, v) :: m)
    else (b, w) :: Memory.write m a v

/-- The canonical form: addresses strictly rising and below 2^32, no entry equal to what an unlisted address reads as. -/
abbrev Memory.wf (m : Memory) : Prop :=
  m.Pairwise (fun c d => c.1 < d.1) ∧ ∀ c ∈ m, c.2 ≠ unlistedByte ∧ c.1 < 2 ^ 32

/-- `MemRead(a, 2)` (20_memory.md R61). -/
def Memory.read16 (m : Memory) (a : Nat) : BitVec 16 := m.read (a + 1) ++ m.read a

/-- `MemRead(a, 4)` (20_memory.md R61). -/
def Memory.read32 (m : Memory) (a : Nat) : Word :=
  m.read (a + 3) ++ m.read (a + 2) ++ m.read (a + 1) ++ m.read a

/-- Store the bytes `bs` at `a`, `a + 1`, …: `MemWrite` (20_memory.md R61). -/
def Memory.writeBytes : Memory → Nat → List Byte → Memory
  | m, _, [] => m
  | m, a, b :: bs => Memory.writeBytes (m.write a b) (a + 1) bs

/-- Byte `k` of a 32-bit value: bits `8k+7 : 8k` (00_scope.md R10). -/
def byteOf (v : Word) (k : Nat) : Byte := v.extractLsb' (8 * k) 8

/-- Bytes `from`, `from + 1`, … of `v`, `n` of them, in the order they take in memory (20_memory.md R61). -/
def bytesOf (v : Word) (start n : Nat) : List Byte := (List.range n).map fun j => byteOf v (start + j)

end Sys2Proof.Machine
end

