-- ==== Sys2Proof/Machine/State.lean ====
section
/-! DEFINITION. The state of the machine (10_state.md R48) and the reasons a step can stop. -/

namespace Sys2Proof.Machine

/-- The architectural exceptions of 60_exceptions.md R340, the two address errors with the address they record. -/
inductive Exc where
  | addressErrorLoad (badvaddr : Word)
  | addressErrorStore (badvaddr : Word)
  | syscall
  | breakpoint
  | reservedInstruction
  | arithmeticOverflow
  | trap
deriving DecidableEq, Repr

/-- How a run ended (70_reset_and_hazards.md R386); the refusals of that table are constructors of `Fault`. -/
inductive RunEnd where
  /-- a step began with pc = END: normal -/
  | droppedOff
  /-- `syscall` service 10, or an environment service that ends the run: normal -/
  | exit
  /-- an exception was raised and EXC_HANDLER is none: `Fault(UnhandledException(e))` -/
  | unhandledException (e : Exc)
deriving DecidableEq, Repr

/-- Whether the run goes on (70_reset_and_hazards.md R386). Log 1. -/
inductive RunStatus where
  | running
  | ended (how : RunEnd)
deriving DecidableEq, Repr

/-- Why a step stops without a next state: the faults of 60_exceptions.md R341 that are no architectural exception, which write
no register and reach no handler, and the step of a run that is over. -/
inductive Fault where
  /-- raised by the fetch: an aligned pc that is neither END nor in a loaded image (10_state.md R26). Safe: the spec refuses. -/
  | fetchOutsideProgram (pc : Word)
  /-- raised by a double-precision form with an odd register number (10_state.md R36). Safe: the spec refuses. -/
  | oddDoubleRegister
  /-- raised by mfc0 and mtc0 with a number other than 8, 12, 13, 14 (10_state.md R45). Safe: the spec refuses. -/
  | unknownCop0Register (n : Reg)
  /-- raised by jalr with rd = rs, not register 0 (42_branch_jump.md R197). Safe: the spec refuses. -/
  | jalrSameRegister
  /-- raised by any exception while Status bit 1 is 1 (60_exceptions.md R353). Safe: the spec refuses. -/
  | nestedException (e : Exc)
  /-- answered by step when the run is over (70_reset_and_hazards.md R386): nothing executes any more. Safe. Logs 1, 2. -/
  | runOver (how : RunEnd)
deriving DecidableEq, Repr

/-- Why an instruction is given no meaning. -/
inductive Refusal where
  /-- raised by exec for an instruction that has no meaning yet; safe: nothing is claimed of it. No arm of exec answers it. -/
  | notModelled (mnemonic : String)
deriving DecidableEq, Repr

/-- What one call of a service of the environment does to the state (ENV_SYSCALL, 44_trap_system.md R237): a change confined by
these fields to `$v0`, `$a0`, `$a1`, `f[0]`, `f[1]` (none: kept) and bytes of data memory, and whether it ends the run
(70_reset_and_hazards.md R386). Log 4. -/
structure EnvAnswer where
  v0 : Option Word
  a0 : Option Word
  a1 : Option Word
  f0 : Option Word
  f1 : Option Word
  stores : List Host.Cell
  endsRun : Bool
deriving DecidableEq, Repr, Inhabited

/-- One service that ENV_SYSCALL defines (44_trap_system.md R237): its number stays defined for the whole run. `script` holds the
answers to its next calls and `always`, if given, the answer to every call after those; where neither says it, the answer is a
free value. Log 4. -/
structure EnvService where
  number : Word
  script : List EnvAnswer
  always : Option EnvAnswer
deriving DecidableEq, Repr

/-- The whole state of the machine (10_state.md R48), its launch parameters, the environment's services, and whether the
run goes on. -/
structure State where
  /-- x[0]..x[31] (10_state.md R20); entry 0 is kept 0 (R22) -/
  gpr : Vector Word 32
  /-- the program counter (10_state.md R25) -/
  pc : Word
  /-- HI (10_state.md R29) -/
  hi : Word
  /-- LO (10_state.md R29) -/
  lo : Word
  /-- f[0]..f[31], raw bits (10_state.md R33) -/
  fpr : Vector Word 32
  /-- the condition flags cc[0]..cc[7] (10_state.md R31) -/
  cc : Vector Bool 8
  /-- c0[8] BadVAddr (10_state.md R44) -/
  badVAddr : Word
  /-- c0[12] Status, all 32 bits plain storage (10_state.md R41) -/
  status : Word
  /-- c0[13] Cause, all 32 bits plain storage (10_state.md R42) -/
  cause : Word
  /-- c0[14] EPC (10_state.md R43) -/
  epc : Word
  /-- memory (10_state.md R47) -/
  mem : Memory
  /-- the launch parameters (00_scope.md R5) -/
  launch : Launch
  /-- whether the run goes on (70_reset_and_hazards.md R386); log 1 -/
  run : RunStatus
  /-- ENV_SYSCALL, the services the environment defines, by number (44_trap_system.md R237); log 4 -/
  env : List EnvService
  /-- THE MODEL'S OWN: how many free values have been drawn; logs 4, 5, 6 -/
  draws : Nat
deriving DecidableEq, Repr

/-- The launch state of 10_state.md R52 with no program loaded (log 3). -/
def State.reset : State :=
  { gpr := ((Vector.replicate 32 0).set 28 0x10008000).set 29 0x7FFFEFFC
    pc := textBase
    hi := 0
    lo := 0
    fpr := Vector.replicate 32 0
    cc := Vector.replicate 8 false
    badVAddr := 0
    status := 0x0000FF11
    cause := 0
    epc := 0
    mem := []
    launch := defaultLaunch
    run := .running
    env := []
    draws := 0 }

end Sys2Proof.Machine
end

