-- ==== Sys2Proof/Machine/Ops.lean ====
section
/-! DEFINITION. The shared operations over the state: registers, flags, memory accesses with their checks, taking an exception and
returning from one, and the environment's answer to a system call. -/

namespace Sys2Proof.Machine

/-- What a meaning answers. -/
abbrev Result := Host.Outcome State Fault Refusal

/-! ### Registers -/

/-- `x[i]`; `x[0]` reads 0 (10_state.md R22). -/
def State.x (s : State) (i : Reg) : Word := if i = 0 then 0 else s.gpr[i.toNat]'i.isLt

/-- `x[i] <- v`; a write to `x[0]` is discarded (10_state.md R22). -/
def State.setX (s : State) (i : Reg) (v : Word) : State :=
  { s with gpr := if i = 0 then s.gpr else s.gpr.set i.toNat v i.isLt }

/-- `f[i]` (10_state.md R33). -/
def State.f (s : State) (i : Reg) : Word := s.fpr[i.toNat]'i.isLt

/-- `f[i] <- v` (10_state.md R33). -/
def State.setF (s : State) (i : Reg) (v : Word) : State := { s with fpr := s.fpr.set i.toNat v i.isLt }

/-- `d[i]` for even `i`: `f[i+1] ++ f[i]` (10_state.md R35). -/
def State.d (s : State) (i : Reg) : DWord := s.f (i + 1) ++ s.f i

/-- `d[i] <- v` for even `i` (10_state.md R35). -/
def State.setD (s : State) (i : Reg) (v : DWord) : State :=
  (s.setF i (v.extractLsb' 0 32)).setF (i + 1) (v.extractLsb' 32 32)

/-- `cc[k]` (10_state.md R31). -/
def State.flag (s : State) (k : CondFlag) : Bool := s.cc[k.toNat]'k.isLt

/-- `cc[k] <- b` (10_state.md R31). -/
def State.setFlag (s : State) (k : CondFlag) (b : Bool) : State := { s with cc := s.cc.set k.toNat b k.isLt }

/-- `c0[n]`, for the four registers there are (10_state.md R40, R45). -/
def State.c0 (s : State) (n : Reg) : Option Word :=
  if n = 8 then some s.badVAddr else if n = 12 then some s.status else if n = 13 then some s.cause
  else if n = 14 then some s.epc else none

/-- `c0[n] <- v`, all 32 bits, for the four registers there are (10_state.md R40 to R45). -/
def State.setC0 (s : State) (n : Reg) (v : Word) : Option State :=
  if n = 8 then some { s with badVAddr := v } else if n = 12 then some { s with status := v }
  else if n = 13 then some { s with cause := v } else if n = 14 then some { s with epc := v } else none

/-- HI and LO written together from a 64-bit value (10_state.md R29). -/
def State.setHiLo (s : State) (v : DWord) : State := { s with hi := v.extractLsb' 32 32, lo := v.extractLsb' 0 32 }

/-- The default advance `pc <- pc + 4` (10_state.md R27). -/
def State.advance (s : State) : State := { s with pc := s.pc + 4 }

/-- `pc <- t` (00_scope.md R11). -/
def State.jump (s : State) (t : Word) : State := { s with pc := t }

/-- A branch: taken to its target, or the default advance; there is no delay slot (42_branch_jump.md R180, R181). -/
def State.branch (s : State) (taken : Bool) (imm : Imm16) : State :=
  s.jump (if taken then branchTarget s.pc imm else s.pc + 4)

/-- `HI ++ LO`, the accumulator (41_multiply_divide.md R162). -/
def State.acc (s : State) : DWord := s.hi ++ s.lo

/-! ### Free values -/

/-- A single-precision result into `f[fd]`; `none` draws some NaN (45_fp_arithmetic.md R263; log 6). -/
def State.putSingle (s : State) (fd : Reg) (r : Option Word) : State :=
  { s.setF fd (r.getD (nan32Of (Config.freeSingle s.draws))) with draws := if r.isSome then s.draws else s.draws + 1 }

/-- A double-precision result into `d[fd]`; `none` draws some NaN (45_fp_arithmetic.md R263; log 6). -/
def State.putDouble (s : State) (fd : Reg) (r : Option DWord) : State :=
  { s.setD fd (r.getD (nan64Of (Config.freeDouble s.draws))) with draws := if r.isSome then s.draws else s.draws + 1 }

/-- HI and LO after a division by zero: two free values (41_multiply_divide.md R161; log 5). -/
def State.drawHiLo (s : State) : State :=
  { s with hi := Config.freeWord s.draws, lo := Config.freeWord (s.draws + 1), draws := s.draws + 2 }

/-! ### Exceptions -/

/-- The number that trap entry writes into Cause bits 6:2 (60_exceptions.md R340). -/
def Exc.code : Exc → Word
  | .addressErrorLoad _ => 4
  | .addressErrorStore _ => 5
  | .syscall => 8
  | .breakpoint => 9
  | .reservedInstruction => 10
  | .arithmeticOverflow => 12
  | .trap => 13

/-- BadVAddr after the entry: the offending address of an address error, else what it was (60_exceptions.md R350). -/
def Exc.badVAddrAfter (e : Exc) (old : Word) : Word :=
  match e with
  | .addressErrorLoad a => a
  | .addressErrorStore a => a
  | _ => old

/-- Status bit 1, the exception level (10_state.md R41). -/
def State.exl (s : State) : Bool := s.status.getLsbD 1

/-- The Coprocessor 0 writes of trap entry (60_exceptions.md R350). -/
def State.recordException (s : State) (e : Exc) : State :=
  { s with
    epc := s.pc
    cause := (s.cause &&& 0xFFFFFF83) ||| (e.code <<< 2)
    status := s.status ||| 2
    badVAddr := e.badVAddrAfter s.badVAddr }

/-- TAKING AN EXCEPTION, raised by the instruction at pc (60_exceptions.md R350, R353): refused while EXL is 1; otherwise EPC,
Cause, Status and BadVAddr are written and control goes to EXC_HANDLER, or, where there is none, the run ends (log 1). -/
def raise (e : Exc) (s : State) : Result :=
  if s.exl then .fault (.nestedException e)
  else
    match s.launch.excHandler with
    | some h => .next ((s.recordException e).jump h)
    | none => .next { s.recordException e with run := .ended (.unhandledException e) }

/-- A conditional trap: the exception, or the default advance (44_trap_system.md R230). -/
def trapIf (c : Bool) (s : State) : Result := if c then raise .trap s else .next s.advance

/-- RETURN FROM AN EXCEPTION (44_trap_system.md R234, 60_exceptions.md R352): pc from EPC, Status bit 1 cleared. -/
def State.returnFromException (s : State) : State := { s with pc := s.epc, status := s.status &&& 0xFFFFFFFD }

/-- The check of R36, made before anything is read or written: every register number in a double-precision position is even. -/
def withEven (regs : List Reg) (k : Result) : Result :=
  if regs.all isEven then k else .fault .oddDoubleRegister

/-! ### Memory accesses -/

/-- `EA <- (x[rs] + sext_32(imm16)) mod 2^32` (43_load_store.md R200). -/
def State.ea (s : State) (offset : Imm16) (rs : Reg) : Word := s.x rs + sext offset

/-- The address of the aligned word that contains an address (43_load_store.md R202). -/
def wordBase (ea : Word) : Nat := ea.toNat - ea.toNat % 4

/-- A load from `ea` that needs a multiple of `width` and touches the `n` bytes from `first`: the checks of 43_load_store.md R201
steps 3 and 4, then the state `t` after the access. -/
def loadAt (s : State) (ea : Word) (width first n : Nat) (t : State) : Result :=
  if ea.toNat % width = 0 ∧ s.launch.allReadable first n then .next t else raise (.addressErrorLoad ea) s

/-- A store to `ea` that needs a multiple of `width` and puts the bytes `bs` at `first`: the checks of 43_load_store.md R201 steps
3 and 4, then the bytes, then what else the instruction does. -/
def storeAt (s : State) (ea : Word) (width first : Nat) (bs : List Byte) (after : State → State) : Result :=
  if ea.toNat % width = 0 ∧ s.launch.allWritable first bs.length then
    .next (after { s with mem := s.mem.writeBytes first bs })
  else raise (.addressErrorStore ea) s

/-! ### The environment -/

/-- The bytes of a list that lie in data memory, written in its order: the memory of an environment's answer (44_trap_system.md
R237), the data of a program (70_reset_and_hazards.md R381). -/
def Launch.storeCells (l : Launch) : List Host.Cell → Memory → Memory
  | [], m => m
  | c :: cs, m => Launch.storeCells l cs (if l.dataWritable c.1 then m.write c.1 c.2 else m)

/-- What an answer of the environment does to the state (44_trap_system.md R237): it may write `$v0`, `$a0`, `$a1`, `f[0]`, `f[1]`
and data memory, and nothing else; it ends the run or control goes on at pc + 4. -/
def State.applyAnswer (s : State) (a : EnvAnswer) : State :=
  let t := (((((s.setX 2 (a.v0.getD (s.x 2))).setX 4 (a.a0.getD (s.x 4))).setX 5 (a.a1.getD (s.x 5))).setF 0
    (a.f0.getD (s.f 0))).setF 1 (a.f1.getD (s.f 1)))
  let u := { t with mem := s.launch.storeCells a.stores s.mem }
  if a.endsRun then { u with run := .ended .exit } else u.advance

end Sys2Proof.Machine
end

