-- ==== Sys2Proof/Machine/BranchJump.lean ====
section
/-! DEFINITION. Branches and jumps (42_branch_jump.md R180 to R198): one meaning per instruction. -/

namespace Sys2Proof.Machine

/-- `bc1f cc,label / bc1f label` (42_branch_jump.md R185). -/
def execBc1f (cc : CondFlag) (imm : Imm16) (s : State) : Result :=
  .next (s.branch (!s.flag cc) imm)

/-- `bc1t cc,label / bc1t label` (42_branch_jump.md R186). -/
def execBc1t (cc : CondFlag) (imm : Imm16) (s : State) : Result :=
  .next (s.branch (s.flag cc) imm)

/-- `beq rs,rt,label` (42_branch_jump.md R187). -/
def execBeq (rs : Reg) (rt : Reg) (imm : Imm16) (s : State) : Result :=
  .next (s.branch (s.x rs = s.x rt) imm)

/-- `bgez rs,label` (42_branch_jump.md R188). -/
def execBgez (rs : Reg) (imm : Imm16) (s : State) : Result :=
  .next (s.branch ((s.x rs).toInt ≥ 0) imm)

/-- `bgezal rs,label` (42_branch_jump.md R189). -/
def execBgezal (rs : Reg) (imm : Imm16) (s : State) : Result :=
  if (s.x rs).toInt ≥ 0 then .next ((s.setX 31 (s.pc + 4)).jump (branchTarget s.pc imm))
  else .next s.advance

/-- `bgtz rs,label` (42_branch_jump.md R190). -/
def execBgtz (rs : Reg) (imm : Imm16) (s : State) : Result :=
  .next (s.branch ((s.x rs).toInt > 0) imm)

/-- `blez rs,label` (42_branch_jump.md R191). -/
def execBlez (rs : Reg) (imm : Imm16) (s : State) : Result :=
  .next (s.branch ((s.x rs).toInt ≤ 0) imm)

/-- `bltz rs,label` (42_branch_jump.md R192). -/
def execBltz (rs : Reg) (imm : Imm16) (s : State) : Result :=
  .next (s.branch ((s.x rs).toInt < 0) imm)

/-- `bltzal rs,label` (42_branch_jump.md R193). -/
def execBltzal (rs : Reg) (imm : Imm16) (s : State) : Result :=
  if (s.x rs).toInt < 0 then .next ((s.setX 31 (s.pc + 4)).jump (branchTarget s.pc imm))
  else .next s.advance

/-- `bne rs,rt,label` (42_branch_jump.md R194). -/
def execBne (rs : Reg) (rt : Reg) (imm : Imm16) (s : State) : Result :=
  .next (s.branch (s.x rs ≠ s.x rt) imm)

/-- `j target` (42_branch_jump.md R195). -/
def execJ (index : BitVec 26) (s : State) : Result :=
  .next (s.jump (jumpTarget s.pc index))

/-- `jal target` (42_branch_jump.md R196). -/
def execJal (index : BitVec 26) (s : State) : Result :=
  .next ((s.setX 31 (s.pc + 4)).jump (jumpTarget s.pc index))

/-- `jalr rs / jalr rd,rs` (42_branch_jump.md R197); the hint is not read. -/
def execJalr (rd : Reg) (rs : Reg) (_hint : Reg) (s : State) : Result :=
  if rd = rs ∧ rd ≠ 0 then .fault .jalrSameRegister
  else .next ((s.setX rd (s.pc + 4)).jump (s.x rs))

/-- `jr rs` (42_branch_jump.md R198); the hint is not read. -/
def execJr (rs : Reg) (_hint : Reg) (s : State) : Result :=
  .next (s.jump (s.x rs))

end Sys2Proof.Machine
end

