-- ==== Sys2Proof/Machine/FpArith.lean ====
section
/-! DEFINITION. Floating-point arithmetic (45_fp_arithmetic.md R260 to R280): one meaning per instruction. -/

namespace Sys2Proof.Machine

/-- `abs.d fd,fs` (45_fp_arithmetic.md R267). -/
def execAbsD (fd : Reg) (fs : Reg) (s : State) : Result :=
  withEven [fd, fs] (.next (s.putDouble fd (abs64 (s.d fs))).advance)

/-- `abs.s fd,fs` (45_fp_arithmetic.md R268). -/
def execAbsS (fd : Reg) (fs : Reg) (s : State) : Result :=
  .next (s.putSingle fd (abs32 (s.f fs))).advance

/-- `add.d fd,fs,ft` (45_fp_arithmetic.md R269). -/
def execAddD (fd : Reg) (fs : Reg) (ft : Reg) (s : State) : Result :=
  withEven [fd, fs, ft]
    (.next (s.putDouble fd (asDouble (double.add (b64 (s.d fs)) (b64 (s.d ft))))).advance)

/-- `add.s fd,fs,ft` (45_fp_arithmetic.md R270). -/
def execAddS (fd : Reg) (fs : Reg) (ft : Reg) (s : State) : Result :=
  .next (s.putSingle fd (asSingle (single.add (b32 (s.f fs)) (b32 (s.f ft))))).advance

/-- `div.d fd,fs,ft` (45_fp_arithmetic.md R271). -/
def execDivD (fd : Reg) (fs : Reg) (ft : Reg) (s : State) : Result :=
  withEven [fd, fs, ft]
    (.next (s.putDouble fd (asDouble (double.div (b64 (s.d fs)) (b64 (s.d ft))))).advance)

/-- `div.s fd,fs,ft` (45_fp_arithmetic.md R272). -/
def execDivS (fd : Reg) (fs : Reg) (ft : Reg) (s : State) : Result :=
  .next (s.putSingle fd (asSingle (single.div (b32 (s.f fs)) (b32 (s.f ft))))).advance

/-- `mul.d fd,fs,ft` (45_fp_arithmetic.md R273). -/
def execMulD (fd : Reg) (fs : Reg) (ft : Reg) (s : State) : Result :=
  withEven [fd, fs, ft]
    (.next (s.putDouble fd (asDouble (double.mul (b64 (s.d fs)) (b64 (s.d ft))))).advance)

/-- `mul.s fd,fs,ft` (45_fp_arithmetic.md R274). -/
def execMulS (fd : Reg) (fs : Reg) (ft : Reg) (s : State) : Result :=
  .next (s.putSingle fd (asSingle (single.mul (b32 (s.f fs)) (b32 (s.f ft))))).advance

/-- `neg.d fd,fs` (45_fp_arithmetic.md R275). -/
def execNegD (fd : Reg) (fs : Reg) (s : State) : Result :=
  withEven [fd, fs] (.next (s.putDouble fd (neg64 (s.d fs))).advance)

/-- `neg.s fd,fs` (45_fp_arithmetic.md R276). -/
def execNegS (fd : Reg) (fs : Reg) (s : State) : Result :=
  .next (s.putSingle fd (neg32 (s.f fs))).advance

/-- `sqrt.d fd,fs` (45_fp_arithmetic.md R277). -/
def execSqrtD (fd : Reg) (fs : Reg) (s : State) : Result :=
  withEven [fd, fs]
    (.next (s.putDouble fd (asDouble (double.sqrt (b64 (s.d fs))))).advance)

/-- `sqrt.s fd,fs` (45_fp_arithmetic.md R278). -/
def execSqrtS (fd : Reg) (fs : Reg) (s : State) : Result :=
  .next (s.putSingle fd (asSingle (single.sqrt (b32 (s.f fs))))).advance

/-- `sub.d fd,fs,ft` (45_fp_arithmetic.md R279). -/
def execSubD (fd : Reg) (fs : Reg) (ft : Reg) (s : State) : Result :=
  withEven [fd, fs, ft]
    (.next (s.putDouble fd (asDouble (double.sub (b64 (s.d fs)) (b64 (s.d ft))))).advance)

/-- `sub.s fd,fs,ft` (45_fp_arithmetic.md R280). -/
def execSubS (fd : Reg) (fs : Reg) (ft : Reg) (s : State) : Result :=
  .next (s.putSingle fd (asSingle (single.sub (b32 (s.f fs)) (b32 (s.f ft))))).advance

end Sys2Proof.Machine
end

