-- ==== Sys2Proof/Machine/Flags.lean ====
section
/-! DEFINITION. The conditions and flags: overflow detection (40_integer_alu.md R120), signed and unsigned comparison (00_scope.md R7,
40_integer_alu.md R122), and the relations that set a coprocessor 1 condition flag (46_fp_compare_convert_move.md R291). The integer
unit has no flags (10_state.md R30). -/

namespace Sys2Proof.Machine

/-- The exact integer lies outside the signed 32-bit range (40_integer_alu.md R120). -/
def outsideSigned (v : Int) : Bool := v < -2 ^ 31 || v > 2 ^ 31 - 1

/-- The signed sum does not fit (40_integer_alu.md R120). -/
def addOverflows (a b : Word) : Bool := outsideSigned (a.toInt + b.toInt)

/-- The signed difference does not fit (40_integer_alu.md R120). -/
def subOverflows (a b : Word) : Bool := outsideSigned (a.toInt - b.toInt)

/-- `s32(a) < s32(b)` (00_scope.md R7). -/
def ltSigned (a b : Word) : Bool := a.toInt < b.toInt

/-- `u32(a) < u32(b)` (00_scope.md R7). -/
def ltUnsigned (a b : Word) : Bool := a.toNat < b.toNat

/-- A comparison's result in a general register: 1 or 0 (10_state.md R30). -/
def boolWord (c : Bool) : Word := if c then 1 else 0

/-- `eq` (46_fp_compare_convert_move.md R291). -/
def fpEq : FpVal → FpVal → Bool
  | .nan, _ => false
  | _, .nan => false
  | .inf a, .inf b => a == b
  | .inf _, .fin _ _ _ => false
  | .fin _ _ _, .inf _ => false
  | .fin a m e, .fin b n g => (scaled a m e b n g).1 == (scaled a m e b n g).2

/-- `lt` (46_fp_compare_convert_move.md R291). -/
def fpLt : FpVal → FpVal → Bool
  | .nan, _ => false
  | _, .nan => false
  | .inf a, .inf b => a && !b
  | .inf a, .fin _ _ _ => a
  | .fin _ _ _, .inf b => !b
  | .fin a m e, .fin b n g => (scaled a m e b n g).1 < (scaled a m e b n g).2

/-- `le` (46_fp_compare_convert_move.md R291). -/
def fpLe (a b : FpVal) : Bool := fpLt a b || fpEq a b

end Sys2Proof.Machine
end

