-- ==== Sys2Proof/Machine/FpMove.lean ====
section
/-! DEFINITION. Floating-point comparisons, conversions and moves (46_fp_compare_convert_move.md R290 to R327): one meaning per instruction. -/

namespace Sys2Proof.Machine

/-- `c.eq.d fs,ft / c.eq.d cc,fs,ft` (46_fp_compare_convert_move.md R294). -/
def execCEqD (cc : CondFlag) (fs : Reg) (ft : Reg) (s : State) : Result :=
  withEven [fs, ft] (.next (s.setFlag cc (fpEq (b64 (s.d fs)) (b64 (s.d ft)))).advance)

/-- `c.eq.s fs,ft / c.eq.s cc,fs,ft` (46_fp_compare_convert_move.md R295). -/
def execCEqS (cc : CondFlag) (fs : Reg) (ft : Reg) (s : State) : Result :=
  .next (s.setFlag cc (fpEq (b32 (s.f fs)) (b32 (s.f ft)))).advance

/-- `c.le.d fs,ft / c.le.d cc,fs,ft` (46_fp_compare_convert_move.md R296). -/
def execCLeD (cc : CondFlag) (fs : Reg) (ft : Reg) (s : State) : Result :=
  withEven [fs, ft] (.next (s.setFlag cc (fpLe (b64 (s.d fs)) (b64 (s.d ft)))).advance)

/-- `c.le.s fs,ft / c.le.s cc,fs,ft` (46_fp_compare_convert_move.md R297). -/
def execCLeS (cc : CondFlag) (fs : Reg) (ft : Reg) (s : State) : Result :=
  .next (s.setFlag cc (fpLe (b32 (s.f fs)) (b32 (s.f ft)))).advance

/-- `c.lt.d fs,ft / c.lt.d cc,fs,ft` (46_fp_compare_convert_move.md R298). -/
def execCLtD (cc : CondFlag) (fs : Reg) (ft : Reg) (s : State) : Result :=
  withEven [fs, ft] (.next (s.setFlag cc (fpLt (b64 (s.d fs)) (b64 (s.d ft)))).advance)

/-- `c.lt.s fs,ft / c.lt.s cc,fs,ft` (46_fp_compare_convert_move.md R299). -/
def execCLtS (cc : CondFlag) (fs : Reg) (ft : Reg) (s : State) : Result :=
  .next (s.setFlag cc (fpLt (b32 (s.f fs)) (b32 (s.f ft)))).advance

/-- `ceil.w.d fd,fs` (46_fp_compare_convert_move.md R300). -/
def execCeilWD (fd : Reg) (fs : Reg) (s : State) : Result :=
  withEven [fs] (.next (s.setF fd (toWord .towardPosInf (b64 (s.d fs)))).advance)

/-- `ceil.w.s fd,fs` (46_fp_compare_convert_move.md R301). -/
def execCeilWS (fd : Reg) (fs : Reg) (s : State) : Result :=
  .next (s.setF fd (toWord .towardPosInf (b32 (s.f fs)))).advance

/-- `cvt.d.s fd,fs` (46_fp_compare_convert_move.md R302). -/
def execCvtDS (fd : Reg) (fs : Reg) (s : State) : Result :=
  withEven [fd] (.next (s.putDouble fd (asDouble (double.convert (b32 (s.f fs))))).advance)

/-- `cvt.d.w fd,fs` (46_fp_compare_convert_move.md R303). -/
def execCvtDW (fd : Reg) (fs : Reg) (s : State) : Result :=
  withEven [fd] (.next (s.setD fd (BitVec.ofNat 64 (double.ofInt (s.f fs).toInt))).advance)

/-- `cvt.s.d fd,fs` (46_fp_compare_convert_move.md R304). -/
def execCvtSD (fd : Reg) (fs : Reg) (s : State) : Result :=
  withEven [fs] (.next (s.putSingle fd (asSingle (single.convert (b64 (s.d fs))))).advance)

/-- `cvt.s.w fd,fs` (46_fp_compare_convert_move.md R305). -/
def execCvtSW (fd : Reg) (fs : Reg) (s : State) : Result :=
  .next (s.setF fd (BitVec.ofNat 32 (single.ofInt (s.f fs).toInt))).advance

/-- `cvt.w.d fd,fs` (46_fp_compare_convert_move.md R306); log 7. -/
def execCvtWD (fd : Reg) (fs : Reg) (s : State) : Result :=
  withEven [fs] (.next (s.setF fd (cvtWord (b64 (s.d fs)))).advance)

/-- `cvt.w.s fd,fs` (46_fp_compare_convert_move.md R307); log 7. -/
def execCvtWS (fd : Reg) (fs : Reg) (s : State) : Result :=
  .next (s.setF fd (cvtWord (b32 (s.f fs)))).advance

/-- `floor.w.d fd,fs` (46_fp_compare_convert_move.md R308). -/
def execFloorWD (fd : Reg) (fs : Reg) (s : State) : Result :=
  withEven [fs] (.next (s.setF fd (toWord .towardNegInf (b64 (s.d fs)))).advance)

/-- `floor.w.s fd,fs` (46_fp_compare_convert_move.md R309). -/
def execFloorWS (fd : Reg) (fs : Reg) (s : State) : Result :=
  .next (s.setF fd (toWord .towardNegInf (b32 (s.f fs)))).advance

/-- `mfc1 rt,fs` (46_fp_compare_convert_move.md R310). -/
def execMfc1 (rt : Reg) (fs : Reg) (s : State) : Result :=
  .next (s.setX rt (s.f fs)).advance

/-- `mov.d fd,fs` (46_fp_compare_convert_move.md R311). -/
def execMovD (fd : Reg) (fs : Reg) (s : State) : Result :=
  withEven [fd, fs] (.next (s.setD fd (s.d fs)).advance)

/-- `mov.s fd,fs` (46_fp_compare_convert_move.md R312). -/
def execMovS (fd : Reg) (fs : Reg) (s : State) : Result :=
  .next (s.setF fd (s.f fs)).advance

/-- `movf rd,rs / movf rd,rs,cc` (46_fp_compare_convert_move.md R313). -/
def execMovf (rd : Reg) (rs : Reg) (cc : CondFlag) (s : State) : Result :=
  .next (if s.flag cc = false then s.setX rd (s.x rs) else s).advance

/-- `movf.d fd,fs / movf.d fd,fs,cc` (46_fp_compare_convert_move.md R314). -/
def execMovfD (fd : Reg) (fs : Reg) (cc : CondFlag) (s : State) : Result :=
  withEven [fd, fs] (.next (if s.flag cc = false then s.setD fd (s.d fs) else s).advance)

/-- `movf.s fd,fs / movf.s fd,fs,cc` (46_fp_compare_convert_move.md R315). -/
def execMovfS (fd : Reg) (fs : Reg) (cc : CondFlag) (s : State) : Result :=
  .next (if s.flag cc = false then s.setF fd (s.f fs) else s).advance

/-- `movn.d fd,fs,rt` (46_fp_compare_convert_move.md R316). -/
def execMovnD (fd : Reg) (fs : Reg) (rt : Reg) (s : State) : Result :=
  withEven [fd, fs] (.next (if s.x rt ≠ 0 then s.setD fd (s.d fs) else s).advance)

/-- `movn.s fd,fs,rt` (46_fp_compare_convert_move.md R317). -/
def execMovnS (fd : Reg) (fs : Reg) (rt : Reg) (s : State) : Result :=
  .next (if s.x rt ≠ 0 then s.setF fd (s.f fs) else s).advance

/-- `movt rd,rs / movt rd,rs,cc` (46_fp_compare_convert_move.md R318). -/
def execMovt (rd : Reg) (rs : Reg) (cc : CondFlag) (s : State) : Result :=
  .next (if s.flag cc = true then s.setX rd (s.x rs) else s).advance

/-- `movt.d fd,fs / movt.d fd,fs,cc` (46_fp_compare_convert_move.md R319). -/
def execMovtD (fd : Reg) (fs : Reg) (cc : CondFlag) (s : State) : Result :=
  withEven [fd, fs] (.next (if s.flag cc = true then s.setD fd (s.d fs) else s).advance)

/-- `movt.s fd,fs / movt.s fd,fs,cc` (46_fp_compare_convert_move.md R320). -/
def execMovtS (fd : Reg) (fs : Reg) (cc : CondFlag) (s : State) : Result :=
  .next (if s.flag cc = true then s.setF fd (s.f fs) else s).advance

/-- `movz.d fd,fs,rt` (46_fp_compare_convert_move.md R321). -/
def execMovzD (fd : Reg) (fs : Reg) (rt : Reg) (s : State) : Result :=
  withEven [fd, fs] (.next (if s.x rt = 0 then s.setD fd (s.d fs) else s).advance)

/-- `movz.s fd,fs,rt` (46_fp_compare_convert_move.md R322). -/
def execMovzS (fd : Reg) (fs : Reg) (rt : Reg) (s : State) : Result :=
  .next (if s.x rt = 0 then s.setF fd (s.f fs) else s).advance

/-- `mtc1 rt,fs` (46_fp_compare_convert_move.md R323). -/
def execMtc1 (rt : Reg) (fs : Reg) (s : State) : Result :=
  .next (s.setF fs (s.x rt)).advance

/-- `round.w.d fd,fs` (46_fp_compare_convert_move.md R324). -/
def execRoundWD (fd : Reg) (fs : Reg) (s : State) : Result :=
  withEven [fs] (.next (s.setF fd (toWord .nearestEven (b64 (s.d fs)))).advance)

/-- `round.w.s fd,fs` (46_fp_compare_convert_move.md R325). -/
def execRoundWS (fd : Reg) (fs : Reg) (s : State) : Result :=
  .next (s.setF fd (toWord .nearestEven (b32 (s.f fs)))).advance

/-- `trunc.w.d fd,fs` (46_fp_compare_convert_move.md R326). -/
def execTruncWD (fd : Reg) (fs : Reg) (s : State) : Result :=
  withEven [fs] (.next (s.setF fd (toWord .towardZero (b64 (s.d fs)))).advance)

/-- `trunc.w.s fd,fs` (46_fp_compare_convert_move.md R327). -/
def execTruncWS (fd : Reg) (fs : Reg) (s : State) : Result :=
  .next (s.setF fd (toWord .towardZero (b32 (s.f fs)))).advance

end Sys2Proof.Machine
end

