-- ==== Sys2Proof/Machine/IntegerAlu.lean ====
section
/-! DEFINITION. Integer arithmetic, logic, shifts, comparisons and conditional moves (40_integer_alu.md R120 to R153): one meaning per instruction. -/

namespace Sys2Proof.Machine

/-- `add rd,rs,rt` (40_integer_alu.md R125). -/
def execAdd (rd : Reg) (rs : Reg) (rt : Reg) (s : State) : Result :=
  if addOverflows (s.x rs) (s.x rt) then raise .arithmeticOverflow s
  else .next (s.setX rd (s.x rs + s.x rt)).advance

/-- `addi rt,rs,imm` (40_integer_alu.md R126). -/
def execAddi (rt : Reg) (rs : Reg) (imm : Imm16) (s : State) : Result :=
  if addOverflows (s.x rs) (sext imm) then raise .arithmeticOverflow s
  else .next (s.setX rt (s.x rs + sext imm)).advance

/-- `addiu rt,rs,imm` (40_integer_alu.md R127). -/
def execAddiu (rt : Reg) (rs : Reg) (imm : Imm16) (s : State) : Result :=
  .next (s.setX rt (s.x rs + sext imm)).advance

/-- `addu rd,rs,rt` (40_integer_alu.md R128). -/
def execAddu (rd : Reg) (rs : Reg) (rt : Reg) (s : State) : Result :=
  .next (s.setX rd (s.x rs + s.x rt)).advance

/-- `and rd,rs,rt` (40_integer_alu.md R129). -/
def execAnd (rd : Reg) (rs : Reg) (rt : Reg) (s : State) : Result :=
  .next (s.setX rd (s.x rs &&& s.x rt)).advance

/-- `andi rt,rs,imm` (40_integer_alu.md R130). -/
def execAndi (rt : Reg) (rs : Reg) (imm : Imm16) (s : State) : Result :=
  .next (s.setX rt (s.x rs &&& zext imm)).advance

/-- `clo rd,rs` (40_integer_alu.md R131); the rt field is not read. -/
def execClo (rd : Reg) (rs : Reg) (_rt : Reg) (s : State) : Result :=
  .next (s.setX rd (countLeading true (s.x rs))).advance

/-- `clz rd,rs` (40_integer_alu.md R132); the rt field is not read. -/
def execClz (rd : Reg) (rs : Reg) (_rt : Reg) (s : State) : Result :=
  .next (s.setX rd (countLeading false (s.x rs))).advance

/-- `lui rt,imm` (40_integer_alu.md R133). -/
def execLui (rt : Reg) (imm : Imm16) (s : State) : Result :=
  .next (s.setX rt (upper imm)).advance

/-- `movn rd,rs,rt` (40_integer_alu.md R134). -/
def execMovn (rd : Reg) (rs : Reg) (rt : Reg) (s : State) : Result :=
  .next (if s.x rt ≠ 0 then s.setX rd (s.x rs) else s).advance

/-- `movz rd,rs,rt` (40_integer_alu.md R135). -/
def execMovz (rd : Reg) (rs : Reg) (rt : Reg) (s : State) : Result :=
  .next (if s.x rt = 0 then s.setX rd (s.x rs) else s).advance

/-- `nop` (40_integer_alu.md R136). -/
def execNop (s : State) : Result :=
  .next s.advance

/-- `nor rd,rs,rt` (40_integer_alu.md R137). -/
def execNor (rd : Reg) (rs : Reg) (rt : Reg) (s : State) : Result :=
  .next (s.setX rd (~~~(s.x rs ||| s.x rt))).advance

/-- `or rd,rs,rt` (40_integer_alu.md R138). -/
def execOr (rd : Reg) (rs : Reg) (rt : Reg) (s : State) : Result :=
  .next (s.setX rd (s.x rs ||| s.x rt)).advance

/-- `ori rt,rs,imm` (40_integer_alu.md R139). -/
def execOri (rt : Reg) (rs : Reg) (imm : Imm16) (s : State) : Result :=
  .next (s.setX rt (s.x rs ||| zext imm)).advance

/-- `sll rd,rt,sa` (40_integer_alu.md R140). -/
def execSll (rd : Reg) (rt : Reg) (sa : Reg) (s : State) : Result :=
  .next (s.setX rd (shiftLeft (s.x rt) sa.toNat)).advance

/-- `sllv rd,rt,rs` (40_integer_alu.md R141). -/
def execSllv (rd : Reg) (rt : Reg) (rs : Reg) (s : State) : Result :=
  .next (s.setX rd (shiftLeft (s.x rt) (shiftAmount (s.x rs)))).advance

/-- `slt rd,rs,rt` (40_integer_alu.md R142). -/
def execSlt (rd : Reg) (rs : Reg) (rt : Reg) (s : State) : Result :=
  .next (s.setX rd (boolWord (ltSigned (s.x rs) (s.x rt)))).advance

/-- `slti rt,rs,imm` (40_integer_alu.md R143). -/
def execSlti (rt : Reg) (rs : Reg) (imm : Imm16) (s : State) : Result :=
  .next (s.setX rt (boolWord (ltSigned (s.x rs) (sext imm)))).advance

/-- `sltiu rt,rs,imm` (40_integer_alu.md R144). -/
def execSltiu (rt : Reg) (rs : Reg) (imm : Imm16) (s : State) : Result :=
  .next (s.setX rt (boolWord (ltUnsigned (s.x rs) (sext imm)))).advance

/-- `sltu rd,rs,rt` (40_integer_alu.md R145). -/
def execSltu (rd : Reg) (rs : Reg) (rt : Reg) (s : State) : Result :=
  .next (s.setX rd (boolWord (ltUnsigned (s.x rs) (s.x rt)))).advance

/-- `sra rd,rt,sa` (40_integer_alu.md R146). -/
def execSra (rd : Reg) (rt : Reg) (sa : Reg) (s : State) : Result :=
  .next (s.setX rd (shiftRightArith (s.x rt) sa.toNat)).advance

/-- `srav rd,rt,rs` (40_integer_alu.md R147). -/
def execSrav (rd : Reg) (rt : Reg) (rs : Reg) (s : State) : Result :=
  .next (s.setX rd (shiftRightArith (s.x rt) (shiftAmount (s.x rs)))).advance

/-- `srl rd,rt,sa` (40_integer_alu.md R148). -/
def execSrl (rd : Reg) (rt : Reg) (sa : Reg) (s : State) : Result :=
  .next (s.setX rd (shiftRightLogical (s.x rt) sa.toNat)).advance

/-- `srlv rd,rt,rs` (40_integer_alu.md R149). -/
def execSrlv (rd : Reg) (rt : Reg) (rs : Reg) (s : State) : Result :=
  .next (s.setX rd (shiftRightLogical (s.x rt) (shiftAmount (s.x rs)))).advance

/-- `sub rd,rs,rt` (40_integer_alu.md R150). -/
def execSub (rd : Reg) (rs : Reg) (rt : Reg) (s : State) : Result :=
  if subOverflows (s.x rs) (s.x rt) then raise .arithmeticOverflow s
  else .next (s.setX rd (s.x rs - s.x rt)).advance

/-- `subu rd,rs,rt` (40_integer_alu.md R151). -/
def execSubu (rd : Reg) (rs : Reg) (rt : Reg) (s : State) : Result :=
  .next (s.setX rd (s.x rs - s.x rt)).advance

/-- `xor rd,rs,rt` (40_integer_alu.md R152). -/
def execXor (rd : Reg) (rs : Reg) (rt : Reg) (s : State) : Result :=
  .next (s.setX rd (s.x rs ^^^ s.x rt)).advance

/-- `xori rt,rs,imm` (40_integer_alu.md R153). -/
def execXori (rt : Reg) (rs : Reg) (imm : Imm16) (s : State) : Result :=
  .next (s.setX rt (s.x rs ^^^ zext imm)).advance

end Sys2Proof.Machine
end

