-- ==== Sys2Proof/Machine/LoadStore.lean ====
section
/-! DEFINITION. Loads and stores (43_load_store.md R200 to R222): one meaning per instruction. -/

namespace Sys2Proof.Machine

/-- `lb rt,offset(rs)` (43_load_store.md R205). -/
def execLb (rt : Reg) (imm : Imm16) (rs : Reg) (s : State) : Result :=
  let ea := s.ea imm rs
  loadAt s ea 1 ea.toNat 1 (s.setX rt ((s.mem.read ea.toNat).signExtend 32)).advance

/-- `lbu rt,offset(rs)` (43_load_store.md R206). -/
def execLbu (rt : Reg) (imm : Imm16) (rs : Reg) (s : State) : Result :=
  let ea := s.ea imm rs
  loadAt s ea 1 ea.toNat 1 (s.setX rt ((s.mem.read ea.toNat).setWidth 32)).advance

/-- `ldc1 ft,offset(rs)` (43_load_store.md R207). -/
def execLdc1 (ft : Reg) (imm : Imm16) (rs : Reg) (s : State) : Result :=
  let ea := s.ea imm rs
  withEven [ft] (loadAt s ea 8 ea.toNat 8 (s.setD ft (s.mem.read32 (ea.toNat + 4) ++ s.mem.read32 ea.toNat)).advance)

/-- `lh rt,offset(rs)` (43_load_store.md R208). -/
def execLh (rt : Reg) (imm : Imm16) (rs : Reg) (s : State) : Result :=
  let ea := s.ea imm rs
  loadAt s ea 2 ea.toNat 2 (s.setX rt ((s.mem.read16 ea.toNat).signExtend 32)).advance

/-- `lhu rt,offset(rs)` (43_load_store.md R209). -/
def execLhu (rt : Reg) (imm : Imm16) (rs : Reg) (s : State) : Result :=
  let ea := s.ea imm rs
  loadAt s ea 2 ea.toNat 2 (s.setX rt ((s.mem.read16 ea.toNat).setWidth 32)).advance

/-- `ll rt,offset(rs)` (43_load_store.md R210); as lw, nothing is reserved. -/
def execLl (rt : Reg) (imm : Imm16) (rs : Reg) (s : State) : Result :=
  let ea := s.ea imm rs
  loadAt s ea 4 ea.toNat 4 (s.setX rt (s.mem.read32 ea.toNat)).advance

/-- `lw rt,offset(rs)` (43_load_store.md R211). -/
def execLw (rt : Reg) (imm : Imm16) (rs : Reg) (s : State) : Result :=
  let ea := s.ea imm rs
  loadAt s ea 4 ea.toNat 4 (s.setX rt (s.mem.read32 ea.toNat)).advance

/-- `lwc1 ft,offset(rs)` (43_load_store.md R212). -/
def execLwc1 (ft : Reg) (imm : Imm16) (rs : Reg) (s : State) : Result :=
  let ea := s.ea imm rs
  loadAt s ea 4 ea.toNat 4 (s.setF ft (s.mem.read32 ea.toNat)).advance

/-- `lwl rt,offset(rs)` (43_load_store.md R213). -/
def execLwl (rt : Reg) (imm : Imm16) (rs : Reg) (s : State) : Result :=
  let ea := s.ea imm rs
  let b := ea.toNat % 4
  loadAt s ea 1 (wordBase ea) (b + 1) (s.setX rt (mergeLeft (s.mem.read32 (wordBase ea)) (s.x rt) b)).advance

/-- `lwr rt,offset(rs)` (43_load_store.md R214). -/
def execLwr (rt : Reg) (imm : Imm16) (rs : Reg) (s : State) : Result :=
  let ea := s.ea imm rs
  let b := ea.toNat % 4
  loadAt s ea 1 ea.toNat (4 - b) (s.setX rt (mergeRight (s.mem.read32 (wordBase ea)) (s.x rt) b)).advance

/-- `sb rt,offset(rs)` (43_load_store.md R215). -/
def execSb (rt : Reg) (imm : Imm16) (rs : Reg) (s : State) : Result :=
  let ea := s.ea imm rs
  storeAt s ea 1 ea.toNat (bytesOf (s.x rt) 0 1) State.advance

/-- `sc rt,offset(rs)` (43_load_store.md R216). -/
def execSc (rt : Reg) (imm : Imm16) (rs : Reg) (s : State) : Result :=
  let ea := s.ea imm rs
  storeAt s ea 4 ea.toNat (bytesOf (s.x rt) 0 4) (fun t => (t.setX rt 1).advance)

/-- `sdc1 ft,offset(rs)` (43_load_store.md R217). -/
def execSdc1 (ft : Reg) (imm : Imm16) (rs : Reg) (s : State) : Result :=
  let ea := s.ea imm rs
  withEven [ft] (storeAt s ea 8 ea.toNat (bytesOf (s.f ft) 0 4 ++ bytesOf (s.f (ft + 1)) 0 4) State.advance)

/-- `sh rt,offset(rs)` (43_load_store.md R218). -/
def execSh (rt : Reg) (imm : Imm16) (rs : Reg) (s : State) : Result :=
  let ea := s.ea imm rs
  storeAt s ea 2 ea.toNat (bytesOf (s.x rt) 0 2) State.advance

/-- `sw rt,offset(rs)` (43_load_store.md R219). -/
def execSw (rt : Reg) (imm : Imm16) (rs : Reg) (s : State) : Result :=
  let ea := s.ea imm rs
  storeAt s ea 4 ea.toNat (bytesOf (s.x rt) 0 4) State.advance

/-- `swc1 ft,offset(rs)` (43_load_store.md R220). -/
def execSwc1 (ft : Reg) (imm : Imm16) (rs : Reg) (s : State) : Result :=
  let ea := s.ea imm rs
  storeAt s ea 4 ea.toNat (bytesOf (s.f ft) 0 4) State.advance

/-- `swl rt,offset(rs)` (43_load_store.md R221). -/
def execSwl (rt : Reg) (imm : Imm16) (rs : Reg) (s : State) : Result :=
  let ea := s.ea imm rs
  let b := ea.toNat % 4
  storeAt s ea 1 (wordBase ea) (bytesOf (s.x rt) (3 - b) (b + 1)) State.advance

/-- `swr rt,offset(rs)` (43_load_store.md R222). -/
def execSwr (rt : Reg) (imm : Imm16) (rs : Reg) (s : State) : Result :=
  let ea := s.ea imm rs
  let b := ea.toNat % 4
  storeAt s ea 1 ea.toNat (bytesOf (s.x rt) 0 (4 - b)) State.advance

end Sys2Proof.Machine
end

