-- ==== Sys2Proof/Machine/MulDiv.lean ====
section
/-! DEFINITION. Multiply, divide, HI and LO (41_multiply_divide.md R160 to R175): one meaning per instruction. -/

namespace Sys2Proof.Machine

/-- `div rs,rt` (41_multiply_divide.md R163); a zero divisor draws HI and LO (R161, log 5). -/
def execDiv (rs : Reg) (rt : Reg) (s : State) : Result :=
  if s.x rt = 0 then .next s.drawHiLo.advance
  else .next (s.setHiLo (wordOfInt ((s.x rs).toInt.tmod (s.x rt).toInt) ++ wordOfInt ((s.x rs).toInt.tdiv (s.x rt).toInt))).advance

/-- `divu rs,rt` (41_multiply_divide.md R164); a zero divisor draws HI and LO (R161, log 5). -/
def execDivu (rs : Reg) (rt : Reg) (s : State) : Result :=
  if s.x rt = 0 then .next s.drawHiLo.advance
  else .next (s.setHiLo (s.x rs % s.x rt ++ s.x rs / s.x rt)).advance

/-- `madd rs,rt` (41_multiply_divide.md R165). -/
def execMadd (rs : Reg) (rt : Reg) (s : State) : Result :=
  .next (s.setHiLo (s.acc + signedProduct (s.x rs) (s.x rt))).advance

/-- `maddu rs,rt` (41_multiply_divide.md R166). -/
def execMaddu (rs : Reg) (rt : Reg) (s : State) : Result :=
  .next (s.setHiLo (s.acc + unsignedProduct (s.x rs) (s.x rt))).advance

/-- `mfhi rd` (41_multiply_divide.md R167). -/
def execMfhi (rd : Reg) (s : State) : Result :=
  .next (s.setX rd (s.hi)).advance

/-- `mflo rd` (41_multiply_divide.md R168). -/
def execMflo (rd : Reg) (s : State) : Result :=
  .next (s.setX rd (s.lo)).advance

/-- `msub rs,rt` (41_multiply_divide.md R169). -/
def execMsub (rs : Reg) (rt : Reg) (s : State) : Result :=
  .next (s.setHiLo (s.acc - signedProduct (s.x rs) (s.x rt))).advance

/-- `msubu rs,rt` (41_multiply_divide.md R170). -/
def execMsubu (rs : Reg) (rt : Reg) (s : State) : Result :=
  .next (s.setHiLo (s.acc - unsignedProduct (s.x rs) (s.x rt))).advance

/-- `mthi rs` (41_multiply_divide.md R171). -/
def execMthi (rs : Reg) (s : State) : Result :=
  .next { s with hi := s.x rs }.advance

/-- `mtlo rs` (41_multiply_divide.md R172). -/
def execMtlo (rs : Reg) (s : State) : Result :=
  .next { s with lo := s.x rs }.advance

/-- `mul rd,rs,rt` (41_multiply_divide.md R173); HI and LO take the signed product. -/
def execMul (rd : Reg) (rs : Reg) (rt : Reg) (s : State) : Result :=
  .next ((s.setHiLo (signedProduct (s.x rs) (s.x rt))).setX rd
    ((signedProduct (s.x rs) (s.x rt)).extractLsb' 0 32)).advance

/-- `mult rs,rt` (41_multiply_divide.md R174). -/
def execMult (rs : Reg) (rt : Reg) (s : State) : Result :=
  .next (s.setHiLo (signedProduct (s.x rs) (s.x rt))).advance

/-- `multu rs,rt` (41_multiply_divide.md R175). -/
def execMultu (rs : Reg) (rt : Reg) (s : State) : Result :=
  .next (s.setHiLo (unsignedProduct (s.x rs) (s.x rt))).advance

end Sys2Proof.Machine
end

