-- ==== Sys2Proof/Machine/Env.lean ====
section
/-! DEFINITION. The environment's part of a system call: the partial map ENV_SYSCALL from service numbers to changes of the state
(44_trap_system.md R237), and the free value where the map is defined but its change is not given. Log 4. -/

namespace Sys2Proof

/-- The change that a defined service makes where State gives no answer for this call: it may depend on the service and on the
whole state (which holds the count of free values, so that two calls from otherwise equal states may differ). A constant without a
body, as those of Config.lean; it stands here because its type names State. Log 4. -/
opaque Config.envAnswer : Word → Machine.State → Machine.EnvAnswer

end Sys2Proof

namespace Sys2Proof.Machine

/-- ENV_SYSCALL at `n`: none if the service is not defined; otherwise the answer to this call, if State gives it, and the services
after the call, which define the same numbers (44_trap_system.md R237). -/
def envCall : List EnvService → Word → Option (Option EnvAnswer × List EnvService)
  | [], _ => none
  | e :: es, n =>
    if e.number = n then
      match e.script with
      | a :: as => some (some a, { e with script := as } :: es)
      | [] => some (e.always, e :: es)
    else (envCall es n).map fun r => (r.1, e :: r.2)

/-- `apply ENV_SYSCALL(x[2]) to the state; pc <- pc + 4` (44_trap_system.md R237); none if the service is not defined. -/
def State.serve (s : State) : Option State :=
  (envCall s.env (s.x 2)).map fun r =>
    { s with env := r.2, draws := if r.1.isSome then s.draws else s.draws + 1 }.applyAnswer
      (r.1.getD (Config.envAnswer (s.x 2) s))

end Sys2Proof.Machine
end

