-- ==== Sys2Proof/Machine/TrapSystem.lean ====
section
/-! DEFINITION. Traps, system call, break and Coprocessor 0 (44_trap_system.md R230 to R249): one meaning per instruction. -/

namespace Sys2Proof.Machine

/-- `break / break code` (44_trap_system.md R233); the code is not read. -/
def execBrk (_code : BitVec 20) (s : State) : Result :=
  raise .breakpoint s

/-- `eret` (44_trap_system.md R234). -/
def execEret (s : State) : Result :=
  .next s.returnFromException

/-- `mfc0 rt,rd` (44_trap_system.md R235). -/
def execMfc0 (rt : Reg) (rd : Reg) (s : State) : Result :=
  match s.c0 rd with
  | some v => .next (s.setX rt v).advance
  | none => .fault (.unknownCop0Register rd)

/-- `mtc0 rt,rd` (44_trap_system.md R236). -/
def execMtc0 (rt : Reg) (rd : Reg) (s : State) : Result :=
  match s.setC0 rd (s.x rt) with
  | some t => .next t.advance
  | none => .fault (.unknownCop0Register rd)

/-- `syscall` (44_trap_system.md R237): exit, a service the environment defines, or the exception; the code is not read, log 4. -/
def execSyscall (_code : BitVec 20) (s : State) : Result :=
  if s.x 2 = 10 then .next { s with run := .ended .exit }
  else
    match s.serve with
    | some t => .next t
    | none => raise .syscall s

/-- `teq rs,rt` (44_trap_system.md R238); the code is not read. -/
def execTeq (rs : Reg) (rt : Reg) (_code : BitVec 10) (s : State) : Result :=
  trapIf (s.x rs = s.x rt) s

/-- `teqi rs,imm` (44_trap_system.md R239). -/
def execTeqi (rs : Reg) (imm : Imm16) (s : State) : Result :=
  trapIf (s.x rs = sext imm) s

/-- `tge rs,rt` (44_trap_system.md R240); the code is not read. -/
def execTge (rs : Reg) (rt : Reg) (_code : BitVec 10) (s : State) : Result :=
  trapIf (!ltSigned (s.x rs) (s.x rt)) s

/-- `tgei rs,imm` (44_trap_system.md R241). -/
def execTgei (rs : Reg) (imm : Imm16) (s : State) : Result :=
  trapIf (!ltSigned (s.x rs) (sext imm)) s

/-- `tgeiu rs,imm` (44_trap_system.md R242). -/
def execTgeiu (rs : Reg) (imm : Imm16) (s : State) : Result :=
  trapIf (!ltUnsigned (s.x rs) (sext imm)) s

/-- `tgeu rs,rt` (44_trap_system.md R243); the code is not read. -/
def execTgeu (rs : Reg) (rt : Reg) (_code : BitVec 10) (s : State) : Result :=
  trapIf (!ltUnsigned (s.x rs) (s.x rt)) s

/-- `tlt rs,rt` (44_trap_system.md R244); the code is not read. -/
def execTlt (rs : Reg) (rt : Reg) (_code : BitVec 10) (s : State) : Result :=
  trapIf (ltSigned (s.x rs) (s.x rt)) s

/-- `tlti rs,imm` (44_trap_system.md R245). -/
def execTlti (rs : Reg) (imm : Imm16) (s : State) : Result :=
  trapIf (ltSigned (s.x rs) (sext imm)) s

/-- `tltiu rs,imm` (44_trap_system.md R246). -/
def execTltiu (rs : Reg) (imm : Imm16) (s : State) : Result :=
  trapIf (ltUnsigned (s.x rs) (sext imm)) s

/-- `tltu rs,rt` (44_trap_system.md R247); the code is not read. -/
def execTltu (rs : Reg) (rt : Reg) (_code : BitVec 10) (s : State) : Result :=
  trapIf (ltUnsigned (s.x rs) (s.x rt)) s

/-- `tne rs,rt` (44_trap_system.md R248); the code is not read. -/
def execTne (rs : Reg) (rt : Reg) (_code : BitVec 10) (s : State) : Result :=
  trapIf (s.x rs ≠ s.x rt) s

/-- `tnei rs,imm` (44_trap_system.md R249). -/
def execTnei (rs : Reg) (imm : Imm16) (s : State) : Result :=
  trapIf (s.x rs ≠ sext imm) s

end Sys2Proof.Machine
end

