-- ==== Sys2Proof/Syntax.lean ====
section
/-! DEFINITION. The instructions: one constructor per row of spec/opcode_table.json, its arguments the row's operands in the order of
30_encoding.md R113, then the fields the decoder ignores (R109: hint, code, the rt of clo and clz). The short forms of R114 are
the same instructions with the default value in the field. -/

namespace Sys2Proof

/-- The 139 instructions of the listing. -/
inductive Instr where
  -- Integer arithmetic, logic, shifts, comparisons, conditional moves (40_integer_alu.md)
  /-- add rd,rs,rt (R125) -/
  | add (rd : Reg) (rs : Reg) (rt : Reg)
  /-- addi rt,rs,imm (R126) -/
  | addi (rt : Reg) (rs : Reg) (imm : Imm16)
  /-- addiu rt,rs,imm (R127) -/
  | addiu (rt : Reg) (rs : Reg) (imm : Imm16)
  /-- addu rd,rs,rt (R128) -/
  | addu (rd : Reg) (rs : Reg) (rt : Reg)
  /-- and rd,rs,rt (R129) -/
  | and (rd : Reg) (rs : Reg) (rt : Reg)
  /-- andi rt,rs,imm (R130) -/
  | andi (rt : Reg) (rs : Reg) (imm : Imm16)
  /-- clo rd,rs (R131) -/
  | clo (rd : Reg) (rs : Reg) (rt : Reg)
  /-- clz rd,rs (R132) -/
  | clz (rd : Reg) (rs : Reg) (rt : Reg)
  /-- lui rt,imm (R133) -/
  | lui (rt : Reg) (imm : Imm16)
  /-- movn rd,rs,rt (R134) -/
  | movn (rd : Reg) (rs : Reg) (rt : Reg)
  /-- movz rd,rs,rt (R135) -/
  | movz (rd : Reg) (rs : Reg) (rt : Reg)
  /-- nop (R136) -/
  | nop
  /-- nor rd,rs,rt (R137) -/
  | nor (rd : Reg) (rs : Reg) (rt : Reg)
  /-- or rd,rs,rt (R138) -/
  | or (rd : Reg) (rs : Reg) (rt : Reg)
  /-- ori rt,rs,imm (R139) -/
  | ori (rt : Reg) (rs : Reg) (imm : Imm16)
  /-- sll rd,rt,sa (R140) -/
  | sll (rd : Reg) (rt : Reg) (sa : Reg)
  /-- sllv rd,rt,rs (R141) -/
  | sllv (rd : Reg) (rt : Reg) (rs : Reg)
  /-- slt rd,rs,rt (R142) -/
  | slt (rd : Reg) (rs : Reg) (rt : Reg)
  /-- slti rt,rs,imm (R143) -/
  | slti (rt : Reg) (rs : Reg) (imm : Imm16)
  /-- sltiu rt,rs,imm (R144) -/
  | sltiu (rt : Reg) (rs : Reg) (imm : Imm16)
  /-- sltu rd,rs,rt (R145) -/
  | sltu (rd : Reg) (rs : Reg) (rt : Reg)
  /-- sra rd,rt,sa (R146) -/
  | sra (rd : Reg) (rt : Reg) (sa : Reg)
  /-- srav rd,rt,rs (R147) -/
  | srav (rd : Reg) (rt : Reg) (rs : Reg)
  /-- srl rd,rt,sa (R148) -/
  | srl (rd : Reg) (rt : Reg) (sa : Reg)
  /-- srlv rd,rt,rs (R149) -/
  | srlv (rd : Reg) (rt : Reg) (rs : Reg)
  /-- sub rd,rs,rt (R150) -/
  | sub (rd : Reg) (rs : Reg) (rt : Reg)
  /-- subu rd,rs,rt (R151) -/
  | subu (rd : Reg) (rs : Reg) (rt : Reg)
  /-- xor rd,rs,rt (R152) -/
  | xor (rd : Reg) (rs : Reg) (rt : Reg)
  /-- xori rt,rs,imm (R153) -/
  | xori (rt : Reg) (rs : Reg) (imm : Imm16)
  -- Multiply, divide, HI and LO (41_multiply_divide.md)
  /-- div rs,rt (R163) -/
  | div (rs : Reg) (rt : Reg)
  /-- divu rs,rt (R164) -/
  | divu (rs : Reg) (rt : Reg)
  /-- madd rs,rt (R165) -/
  | madd (rs : Reg) (rt : Reg)
  /-- maddu rs,rt (R166) -/
  | maddu (rs : Reg) (rt : Reg)
  /-- mfhi rd (R167) -/
  | mfhi (rd : Reg)
  /-- mflo rd (R168) -/
  | mflo (rd : Reg)
  /-- msub rs,rt (R169) -/
  | msub (rs : Reg) (rt : Reg)
  /-- msubu rs,rt (R170) -/
  | msubu (rs : Reg) (rt : Reg)
  /-- mthi rs (R171) -/
  | mthi (rs : Reg)
  /-- mtlo rs (R172) -/
  | mtlo (rs : Reg)
  /-- mul rd,rs,rt (R173) -/
  | mul (rd : Reg) (rs : Reg) (rt : Reg)
  /-- mult rs,rt (R174) -/
  | mult (rs : Reg) (rt : Reg)
  /-- multu rs,rt (R175) -/
  | multu (rs : Reg) (rt : Reg)
  -- Branches and jumps (42_branch_jump.md)
  /-- bc1f label (R185) -/
  | bc1f (cc : CondFlag) (imm : Imm16)
  /-- bc1t label (R186) -/
  | bc1t (cc : CondFlag) (imm : Imm16)
  /-- beq rs,rt,label (R187) -/
  | beq (rs : Reg) (rt : Reg) (imm : Imm16)
  /-- bgez rs,label (R188) -/
  | bgez (rs : Reg) (imm : Imm16)
  /-- bgezal rs,label (R189) -/
  | bgezal (rs : Reg) (imm : Imm16)
  /-- bgtz rs,label (R190) -/
  | bgtz (rs : Reg) (imm : Imm16)
  /-- blez rs,label (R191) -/
  | blez (rs : Reg) (imm : Imm16)
  /-- bltz rs,label (R192) -/
  | bltz (rs : Reg) (imm : Imm16)
  /-- bltzal rs,label (R193) -/
  | bltzal (rs : Reg) (imm : Imm16)
  /-- bne rs,rt,label (R194) -/
  | bne (rs : Reg) (rt : Reg) (imm : Imm16)
  /-- j target (R195) -/
  | j (index : BitVec 26)
  /-- jal target (R196) -/
  | jal (index : BitVec 26)
  /-- jalr rd,rs (R197) -/
  | jalr (rd : Reg) (rs : Reg) (hint : Reg)
  /-- jr rs (R198) -/
  | jr (rs : Reg) (hint : Reg)
  -- Loads and stores (43_load_store.md)
  /-- lb rt,offset(rs) (R205) -/
  | lb (rt : Reg) (imm : Imm16) (rs : Reg)
  /-- lbu rt,offset(rs) (R206) -/
  | lbu (rt : Reg) (imm : Imm16) (rs : Reg)
  /-- ldc1 ft,offset(rs) (R207) -/
  | ldc1 (ft : Reg) (imm : Imm16) (rs : Reg)
  /-- lh rt,offset(rs) (R208) -/
  | lh (rt : Reg) (imm : Imm16) (rs : Reg)
  /-- lhu rt,offset(rs) (R209) -/
  | lhu (rt : Reg) (imm : Imm16) (rs : Reg)
  /-- ll rt,offset(rs) (R210) -/
  | ll (rt : Reg) (imm : Imm16) (rs : Reg)
  /-- lw rt,offset(rs) (R211) -/
  | lw (rt : Reg) (imm : Imm16) (rs : Reg)
  /-- lwc1 ft,offset(rs) (R212) -/
  | lwc1 (ft : Reg) (imm : Imm16) (rs : Reg)
  /-- lwl rt,offset(rs) (R213) -/
  | lwl (rt : Reg) (imm : Imm16) (rs : Reg)
  /-- lwr rt,offset(rs) (R214) -/
  | lwr (rt : Reg) (imm : Imm16) (rs : Reg)
  /-- sb rt,offset(rs) (R215) -/
  | sb (rt : Reg) (imm : Imm16) (rs : Reg)
  /-- sc rt,offset(rs) (R216) -/
  | sc (rt : Reg) (imm : Imm16) (rs : Reg)
  /-- sdc1 ft,offset(rs) (R217) -/
  | sdc1 (ft : Reg) (imm : Imm16) (rs : Reg)
  /-- sh rt,offset(rs) (R218) -/
  | sh (rt : Reg) (imm : Imm16) (rs : Reg)
  /-- sw rt,offset(rs) (R219) -/
  | sw (rt : Reg) (imm : Imm16) (rs : Reg)
  /-- swc1 ft,offset(rs) (R220) -/
  | swc1 (ft : Reg) (imm : Imm16) (rs : Reg)
  /-- swl rt,offset(rs) (R221) -/
  | swl (rt : Reg) (imm : Imm16) (rs : Reg)
  /-- swr rt,offset(rs) (R222) -/
  | swr (rt : Reg) (imm : Imm16) (rs : Reg)
  -- Traps, system call, break, Coprocessor 0 (44_trap_system.md)
  /-- break code (R233) -/
  | brk (code : BitVec 20)
  /-- eret (R234) -/
  | eret
  /-- mfc0 rt,rd (R235) -/
  | mfc0 (rt : Reg) (rd : Reg)
  /-- mtc0 rt,rd (R236) -/
  | mtc0 (rt : Reg) (rd : Reg)
  /-- syscall (R237) -/
  | syscall (code : BitVec 20)
  /-- teq rs,rt (R238) -/
  | teq (rs : Reg) (rt : Reg) (code : BitVec 10)
  /-- teqi rs,imm (R239) -/
  | teqi (rs : Reg) (imm : Imm16)
  /-- tge rs,rt (R240) -/
  | tge (rs : Reg) (rt : Reg) (code : BitVec 10)
  /-- tgei rs,imm (R241) -/
  | tgei (rs : Reg) (imm : Imm16)
  /-- tgeiu rs,imm (R242) -/
  | tgeiu (rs : Reg) (imm : Imm16)
  /-- tgeu rs,rt (R243) -/
  | tgeu (rs : Reg) (rt : Reg) (code : BitVec 10)
  /-- tlt rs,rt (R244) -/
  | tlt (rs : Reg) (rt : Reg) (code : BitVec 10)
  /-- tlti rs,imm (R245) -/
  | tlti (rs : Reg) (imm : Imm16)
  /-- tltiu rs,imm (R246) -/
  | tltiu (rs : Reg) (imm : Imm16)
  /-- tltu rs,rt (R247) -/
  | tltu (rs : Reg) (rt : Reg) (code : BitVec 10)
  /-- tne rs,rt (R248) -/
  | tne (rs : Reg) (rt : Reg) (code : BitVec 10)
  /-- tnei rs,imm (R249) -/
  | tnei (rs : Reg) (imm : Imm16)
  -- Floating-point arithmetic (45_fp_arithmetic.md)
  /-- abs.d fd,fs (R267) -/
  | absD (fd : Reg) (fs : Reg)
  /-- abs.s fd,fs (R268) -/
  | absS (fd : Reg) (fs : Reg)
  /-- add.d fd,fs,ft (R269) -/
  | addD (fd : Reg) (fs : Reg) (ft : Reg)
  /-- add.s fd,fs,ft (R270) -/
  | addS (fd : Reg) (fs : Reg) (ft : Reg)
  /-- div.d fd,fs,ft (R271) -/
  | divD (fd : Reg) (fs : Reg) (ft : Reg)
  /-- div.s fd,fs,ft (R272) -/
  | divS (fd : Reg) (fs : Reg) (ft : Reg)
  /-- mul.d fd,fs,ft (R273) -/
  | mulD (fd : Reg) (fs : Reg) (ft : Reg)
  /-- mul.s fd,fs,ft (R274) -/
  | mulS (fd : Reg) (fs : Reg) (ft : Reg)
  /-- neg.d fd,fs (R275) -/
  | negD (fd : Reg) (fs : Reg)
  /-- neg.s fd,fs (R276) -/
  | negS (fd : Reg) (fs : Reg)
  /-- sqrt.d fd,fs (R277) -/
  | sqrtD (fd : Reg) (fs : Reg)
  /-- sqrt.s fd,fs (R278) -/
  | sqrtS (fd : Reg) (fs : Reg)
  /-- sub.d fd,fs,ft (R279) -/
  | subD (fd : Reg) (fs : Reg) (ft : Reg)
  /-- sub.s fd,fs,ft (R280) -/
  | subS (fd : Reg) (fs : Reg) (ft : Reg)
  -- Floating-point compare, convert, move (46_fp_compare_convert_move.md)
  /-- c.eq.d cc,fs,ft (R294) -/
  | cEqD (cc : CondFlag) (fs : Reg) (ft : Reg)
  /-- c.eq.s cc,fs,ft (R295) -/
  | cEqS (cc : CondFlag) (fs : Reg) (ft : Reg)
  /-- c.le.d cc,fs,ft (R296) -/
  | cLeD (cc : CondFlag) (fs : Reg) (ft : Reg)
  /-- c.le.s cc,fs,ft (R297) -/
  | cLeS (cc : CondFlag) (fs : Reg) (ft : Reg)
  /-- c.lt.d cc,fs,ft (R298) -/
  | cLtD (cc : CondFlag) (fs : Reg) (ft : Reg)
  /-- c.lt.s cc,fs,ft (R299) -/
  | cLtS (cc : CondFlag) (fs : Reg) (ft : Reg)
  /-- ceil.w.d fd,fs (R300) -/
  | ceilWD (fd : Reg) (fs : Reg)
  /-- ceil.w.s fd,fs (R301) -/
  | ceilWS (fd : Reg) (fs : Reg)
  /-- cvt.d.s fd,fs (R302) -/
  | cvtDS (fd : Reg) (fs : Reg)
  /-- cvt.d.w fd,fs (R303) -/
  | cvtDW (fd : Reg) (fs : Reg)
  /-- cvt.s.d fd,fs (R304) -/
  | cvtSD (fd : Reg) (fs : Reg)
  /-- cvt.s.w fd,fs (R305) -/
  | cvtSW (fd : Reg) (fs : Reg)
  /-- cvt.w.d fd,fs (R306) -/
  | cvtWD (fd : Reg) (fs : Reg)
  /-- cvt.w.s fd,fs (R307) -/
  | cvtWS (fd : Reg) (fs : Reg)
  /-- floor.w.d fd,fs (R308) -/
  | floorWD (fd : Reg) (fs : Reg)
  /-- floor.w.s fd,fs (R309) -/
  | floorWS (fd : Reg) (fs : Reg)
  /-- mfc1 rt,fs (R310) -/
  | mfc1 (rt : Reg) (fs : Reg)
  /-- mov.d fd,fs (R311) -/
  | movD (fd : Reg) (fs : Reg)
  /-- mov.s fd,fs (R312) -/
  | movS (fd : Reg) (fs : Reg)
  /-- movf rd,rs,cc (R313) -/
  | movf (rd : Reg) (rs : Reg) (cc : CondFlag)
  /-- movf.d fd,fs,cc (R314) -/
  | movfD (fd : Reg) (fs : Reg) (cc : CondFlag)
  /-- movf.s fd,fs,cc (R315) -/
  | movfS (fd : Reg) (fs : Reg) (cc : CondFlag)
  /-- movn.d fd,fs,rt (R316) -/
  | movnD (fd : Reg) (fs : Reg) (rt : Reg)
  /-- movn.s fd,fs,rt (R317) -/
  | movnS (fd : Reg) (fs : Reg) (rt : Reg)
  /-- movt rd,rs,cc (R318) -/
  | movt (rd : Reg) (rs : Reg) (cc : CondFlag)
  /-- movt.d fd,fs,cc (R319) -/
  | movtD (fd : Reg) (fs : Reg) (cc : CondFlag)
  /-- movt.s fd,fs,cc (R320) -/
  | movtS (fd : Reg) (fs : Reg) (cc : CondFlag)
  /-- movz.d fd,fs,rt (R321) -/
  | movzD (fd : Reg) (fs : Reg) (rt : Reg)
  /-- movz.s fd,fs,rt (R322) -/
  | movzS (fd : Reg) (fs : Reg) (rt : Reg)
  /-- mtc1 rt,fs (R323) -/
  | mtc1 (rt : Reg) (fs : Reg)
  /-- round.w.d fd,fs (R324) -/
  | roundWD (fd : Reg) (fs : Reg)
  /-- round.w.s fd,fs (R325) -/
  | roundWS (fd : Reg) (fs : Reg)
  /-- trunc.w.d fd,fs (R326) -/
  | truncWD (fd : Reg) (fs : Reg)
  /-- trunc.w.s fd,fs (R327) -/
  | truncWS (fd : Reg) (fs : Reg)
deriving DecidableEq, Repr

end Sys2Proof
end

