-- ==== Sys2Proof/WellFormed.lean ====
section
/-! DEFINITION. Which terms of Instr are instructions. The fields have exactly the widths of 30_encoding.md R91, so no register,
flag, shift amount or immediate can be out of range (R115). One check is left. -/

namespace Sys2Proof

/-- The all-zero word is `nop` (30_encoding.md R92), so the term `sll $zero,$zero,0`, which would have that word, is no instruction
of its own. Log 9. -/
def Instr.wellFormed : Instr → Bool
  | .sll rd rt sa => !(rd == 0 && rt == 0 && sa == 0)
  | _ => true

end Sys2Proof
end

