-- ==== Sys2Proof/Decode.lean ====
section
/-! DEFINITION. Decoding (30_encoding.md, opcode_table.json): a word selects the row with (w AND mask) = match (10_state.md R26
step 5), and its fields are cut at the positions of R91. AFTER it the encoder, written from the formats of R93. All bit patterns
are the spec's (its general-knowledge item G1). -/

namespace Sys2Proof

/-- Field `rs`, bits 25:21 (30_encoding.md R91). -/
def rsOf (w : Word) : Reg := w.extractLsb' 21 5

/-- Field `rt` or `ft`, bits 20:16. -/
def rtOf (w : Word) : Reg := w.extractLsb' 16 5

/-- Field `rd` or `fs`, bits 15:11. -/
def rdOf (w : Word) : Reg := w.extractLsb' 11 5

/-- Field `sa`, `fd` or `hint`, bits 10:6. -/
def saOf (w : Word) : Reg := w.extractLsb' 6 5

/-- Field `imm16`, bits 15:0. -/
def immOf (w : Word) : Imm16 := w.extractLsb' 0 16

/-- Field `instr_index`, bits 25:0. -/
def indexOf (w : Word) : BitVec 26 := w.extractLsb' 0 26

/-- Field `cc` of branches and conditional moves, bits 20:18. -/
def ccOf (w : Word) : CondFlag := w.extractLsb' 18 3

/-- Field `cc` of compares, bits 10:8. -/
def ccCmpOf (w : Word) : CondFlag := w.extractLsb' 8 3

/-- Field `code` of syscall and break, bits 25:6. -/
def code20Of (w : Word) : BitVec 20 := w.extractLsb' 6 20

/-- Field `code` of the register traps, bits 15:6. -/
def code10Of (w : Word) : BitVec 10 := w.extractLsb' 6 10

/-- One row of opcode_table.json: the fixed bits (`mask`, `pattern`, the table's match) and the instruction cut from a word. -/
structure Row where
  mnemonic : String
  mask : Word
  pattern : Word
  build : Word → Instr

/-- The word selects the row: (w AND mask) = match (30_encoding.md section 3). -/
def Row.selects (r : Row) (w : Word) : Bool := w &&& r.mask == r.pattern

/-! ### Integer arithmetic, logic, shifts, comparisons, conditional moves (40_integer_alu.md) -/

/-- R125, format R: `000000ssssstttttddddd00000100000`. -/
def rowAdd : Row := ⟨"add", 0xFC0007FF, 0x00000020, fun w => .add (rdOf w) (rsOf w) (rtOf w)⟩

/-- R126, format I: `001000ssssstttttiiiiiiiiiiiiiiii`. -/
def rowAddi : Row := ⟨"addi", 0xFC000000, 0x20000000, fun w => .addi (rtOf w) (rsOf w) (immOf w)⟩

/-- R127, format I: `001001ssssstttttiiiiiiiiiiiiiiii`. -/
def rowAddiu : Row := ⟨"addiu", 0xFC000000, 0x24000000, fun w => .addiu (rtOf w) (rsOf w) (immOf w)⟩

/-- R128, format R: `000000ssssstttttddddd00000100001`. -/
def rowAddu : Row := ⟨"addu", 0xFC0007FF, 0x00000021, fun w => .addu (rdOf w) (rsOf w) (rtOf w)⟩

/-- R129, format R: `000000ssssstttttddddd00000100100`. -/
def rowAnd : Row := ⟨"and", 0xFC0007FF, 0x00000024, fun w => .and (rdOf w) (rsOf w) (rtOf w)⟩

/-- R130, format I: `001100ssssstttttiiiiiiiiiiiiiiii`. -/
def rowAndi : Row := ⟨"andi", 0xFC000000, 0x30000000, fun w => .andi (rtOf w) (rsOf w) (immOf w)⟩

/-- R131, format R2: `011100sssssxxxxxddddd00000100001`. -/
def rowClo : Row := ⟨"clo", 0xFC0007FF, 0x70000021, fun w => .clo (rdOf w) (rsOf w) (rtOf w)⟩

/-- R132, format R2: `011100sssssxxxxxddddd00000100000`. -/
def rowClz : Row := ⟨"clz", 0xFC0007FF, 0x70000020, fun w => .clz (rdOf w) (rsOf w) (rtOf w)⟩

/-- R133, format I: `00111100000tttttiiiiiiiiiiiiiiii`. -/
def rowLui : Row := ⟨"lui", 0xFFE00000, 0x3C000000, fun w => .lui (rtOf w) (immOf w)⟩

/-- R134, format R: `000000ssssstttttddddd00000001011`. -/
def rowMovn : Row := ⟨"movn", 0xFC0007FF, 0x0000000B, fun w => .movn (rdOf w) (rsOf w) (rtOf w)⟩

/-- R135, format R: `000000ssssstttttddddd00000001010`. -/
def rowMovz : Row := ⟨"movz", 0xFC0007FF, 0x0000000A, fun w => .movz (rdOf w) (rsOf w) (rtOf w)⟩

/-- R136, format R: `00000000000000000000000000000000`. -/
def rowNop : Row := ⟨"nop", 0xFFFFFFFF, 0x00000000, fun _ => .nop⟩

/-- R137, format R: `000000ssssstttttddddd00000100111`. -/
def rowNor : Row := ⟨"nor", 0xFC0007FF, 0x00000027, fun w => .nor (rdOf w) (rsOf w) (rtOf w)⟩

/-- R138, format R: `000000ssssstttttddddd00000100101`. -/
def rowOr : Row := ⟨"or", 0xFC0007FF, 0x00000025, fun w => .or (rdOf w) (rsOf w) (rtOf w)⟩

/-- R139, format I: `001101ssssstttttiiiiiiiiiiiiiiii`. -/
def rowOri : Row := ⟨"ori", 0xFC000000, 0x34000000, fun w => .ori (rtOf w) (rsOf w) (immOf w)⟩

/-- R140, format R: `00000000000tttttdddddaaaaa000000`. -/
def rowSll : Row := ⟨"sll", 0xFFE0003F, 0x00000000, fun w => .sll (rdOf w) (rtOf w) (saOf w)⟩

/-- R141, format R: `000000ssssstttttddddd00000000100`. -/
def rowSllv : Row := ⟨"sllv", 0xFC0007FF, 0x00000004, fun w => .sllv (rdOf w) (rtOf w) (rsOf w)⟩

/-- R142, format R: `000000ssssstttttddddd00000101010`. -/
def rowSlt : Row := ⟨"slt", 0xFC0007FF, 0x0000002A, fun w => .slt (rdOf w) (rsOf w) (rtOf w)⟩

/-- R143, format I: `001010ssssstttttiiiiiiiiiiiiiiii`. -/
def rowSlti : Row := ⟨"slti", 0xFC000000, 0x28000000, fun w => .slti (rtOf w) (rsOf w) (immOf w)⟩

/-- R144, format I: `001011ssssstttttiiiiiiiiiiiiiiii`. -/
def rowSltiu : Row := ⟨"sltiu", 0xFC000000, 0x2C000000, fun w => .sltiu (rtOf w) (rsOf w) (immOf w)⟩

/-- R145, format R: `000000ssssstttttddddd00000101011`. -/
def rowSltu : Row := ⟨"sltu", 0xFC0007FF, 0x0000002B, fun w => .sltu (rdOf w) (rsOf w) (rtOf w)⟩

/-- R146, format R: `00000000000tttttdddddaaaaa000011`. -/
def rowSra : Row := ⟨"sra", 0xFFE0003F, 0x00000003, fun w => .sra (rdOf w) (rtOf w) (saOf w)⟩

/-- R147, format R: `000000ssssstttttddddd00000000111`. -/
def rowSrav : Row := ⟨"srav", 0xFC0007FF, 0x00000007, fun w => .srav (rdOf w) (rtOf w) (rsOf w)⟩

/-- R148, format R: `00000000000tttttdddddaaaaa000010`. -/
def rowSrl : Row := ⟨"srl", 0xFFE0003F, 0x00000002, fun w => .srl (rdOf w) (rtOf w) (saOf w)⟩

/-- R149, format R: `000000ssssstttttddddd00000000110`. -/
def rowSrlv : Row := ⟨"srlv", 0xFC0007FF, 0x00000006, fun w => .srlv (rdOf w) (rtOf w) (rsOf w)⟩

/-- R150, format R: `000000ssssstttttddddd00000100010`. -/
def rowSub : Row := ⟨"sub", 0xFC0007FF, 0x00000022, fun w => .sub (rdOf w) (rsOf w) (rtOf w)⟩

/-- R151, format R: `000000ssssstttttddddd00000100011`. -/
def rowSubu : Row := ⟨"subu", 0xFC0007FF, 0x00000023, fun w => .subu (rdOf w) (rsOf w) (rtOf w)⟩

/-- R152, format R: `000000ssssstttttddddd00000100110`. -/
def rowXor : Row := ⟨"xor", 0xFC0007FF, 0x00000026, fun w => .xor (rdOf w) (rsOf w) (rtOf w)⟩

/-- R153, format I: `001110ssssstttttiiiiiiiiiiiiiiii`. -/
def rowXori : Row := ⟨"xori", 0xFC000000, 0x38000000, fun w => .xori (rtOf w) (rsOf w) (immOf w)⟩

/-! ### Multiply, divide, HI and LO (41_multiply_divide.md) -/

/-- R163, format R: `000000sssssttttt0000000000011010`. -/
def rowDiv : Row := ⟨"div", 0xFC00FFFF, 0x0000001A, fun w => .div (rsOf w) (rtOf w)⟩

/-- R164, format R: `000000sssssttttt0000000000011011`. -/
def rowDivu : Row := ⟨"divu", 0xFC00FFFF, 0x0000001B, fun w => .divu (rsOf w) (rtOf w)⟩

/-- R165, format R2: `011100sssssttttt0000000000000000`. -/
def rowMadd : Row := ⟨"madd", 0xFC00FFFF, 0x70000000, fun w => .madd (rsOf w) (rtOf w)⟩

/-- R166, format R2: `011100sssssttttt0000000000000001`. -/
def rowMaddu : Row := ⟨"maddu", 0xFC00FFFF, 0x70000001, fun w => .maddu (rsOf w) (rtOf w)⟩

/-- R167, format R: `0000000000000000ddddd00000010000`. -/
def rowMfhi : Row := ⟨"mfhi", 0xFFFF07FF, 0x00000010, fun w => .mfhi (rdOf w)⟩

/-- R168, format R: `0000000000000000ddddd00000010010`. -/
def rowMflo : Row := ⟨"mflo", 0xFFFF07FF, 0x00000012, fun w => .mflo (rdOf w)⟩

/-- R169, format R2: `011100sssssttttt0000000000000100`. -/
def rowMsub : Row := ⟨"msub", 0xFC00FFFF, 0x70000004, fun w => .msub (rsOf w) (rtOf w)⟩

/-- R170, format R2: `011100sssssttttt0000000000000101`. -/
def rowMsubu : Row := ⟨"msubu", 0xFC00FFFF, 0x70000005, fun w => .msubu (rsOf w) (rtOf w)⟩

/-- R171, format R: `000000sssss000000000000000010001`. -/
def rowMthi : Row := ⟨"mthi", 0xFC1FFFFF, 0x00000011, fun w => .mthi (rsOf w)⟩

/-- R172, format R: `000000sssss000000000000000010011`. -/
def rowMtlo : Row := ⟨"mtlo", 0xFC1FFFFF, 0x00000013, fun w => .mtlo (rsOf w)⟩

/-- R173, format R2: `011100ssssstttttddddd00000000010`. -/
def rowMul : Row := ⟨"mul", 0xFC0007FF, 0x70000002, fun w => .mul (rdOf w) (rsOf w) (rtOf w)⟩

/-- R174, format R: `000000sssssttttt0000000000011000`. -/
def rowMult : Row := ⟨"mult", 0xFC00FFFF, 0x00000018, fun w => .mult (rsOf w) (rtOf w)⟩

/-- R175, format R: `000000sssssttttt0000000000011001`. -/
def rowMultu : Row := ⟨"multu", 0xFC00FFFF, 0x00000019, fun w => .multu (rsOf w) (rtOf w)⟩

/-! ### Branches and jumps (42_branch_jump.md) -/

/-- R185, format FB: `01000101000kkk00iiiiiiiiiiiiiiii`. -/
def rowBc1f : Row := ⟨"bc1f", 0xFFE30000, 0x45000000, fun w => .bc1f (ccOf w) (immOf w)⟩

/-- R186, format FB: `01000101000kkk01iiiiiiiiiiiiiiii`. -/
def rowBc1t : Row := ⟨"bc1t", 0xFFE30000, 0x45010000, fun w => .bc1t (ccOf w) (immOf w)⟩

/-- R187, format I: `000100ssssstttttiiiiiiiiiiiiiiii`. -/
def rowBeq : Row := ⟨"beq", 0xFC000000, 0x10000000, fun w => .beq (rsOf w) (rtOf w) (immOf w)⟩

/-- R188, format RI: `000001sssss00001iiiiiiiiiiiiiiii`. -/
def rowBgez : Row := ⟨"bgez", 0xFC1F0000, 0x04010000, fun w => .bgez (rsOf w) (immOf w)⟩

/-- R189, format RI: `000001sssss10001iiiiiiiiiiiiiiii`. -/
def rowBgezal : Row := ⟨"bgezal", 0xFC1F0000, 0x04110000, fun w => .bgezal (rsOf w) (immOf w)⟩

/-- R190, format I: `000111sssss00000iiiiiiiiiiiiiiii`. -/
def rowBgtz : Row := ⟨"bgtz", 0xFC1F0000, 0x1C000000, fun w => .bgtz (rsOf w) (immOf w)⟩

/-- R191, format I: `000110sssss00000iiiiiiiiiiiiiiii`. -/
def rowBlez : Row := ⟨"blez", 0xFC1F0000, 0x18000000, fun w => .blez (rsOf w) (immOf w)⟩

/-- R192, format RI: `000001sssss00000iiiiiiiiiiiiiiii`. -/
def rowBltz : Row := ⟨"bltz", 0xFC1F0000, 0x04000000, fun w => .bltz (rsOf w) (immOf w)⟩

/-- R193, format RI: `000001sssss10000iiiiiiiiiiiiiiii`. -/
def rowBltzal : Row := ⟨"bltzal", 0xFC1F0000, 0x04100000, fun w => .bltzal (rsOf w) (immOf w)⟩

/-- R194, format I: `000101ssssstttttiiiiiiiiiiiiiiii`. -/
def rowBne : Row := ⟨"bne", 0xFC000000, 0x14000000, fun w => .bne (rsOf w) (rtOf w) (immOf w)⟩

/-- R195, format J: `000010jjjjjjjjjjjjjjjjjjjjjjjjjj`. -/
def rowJ : Row := ⟨"j", 0xFC000000, 0x08000000, fun w => .j (indexOf w)⟩

/-- R196, format J: `000011jjjjjjjjjjjjjjjjjjjjjjjjjj`. -/
def rowJal : Row := ⟨"jal", 0xFC000000, 0x0C000000, fun w => .jal (indexOf w)⟩

/-- R197, format R: `000000sssss00000dddddhhhhh001001`. -/
def rowJalr : Row := ⟨"jalr", 0xFC1F003F, 0x00000009, fun w => .jalr (rdOf w) (rsOf w) (saOf w)⟩

/-- R198, format R: `000000sssss0000000000hhhhh001000`. -/
def rowJr : Row := ⟨"jr", 0xFC1FF83F, 0x00000008, fun w => .jr (rsOf w) (saOf w)⟩

/-! ### Loads and stores (43_load_store.md) -/

/-- R205, format I: `100000ssssstttttiiiiiiiiiiiiiiii`. -/
def rowLb : Row := ⟨"lb", 0xFC000000, 0x80000000, fun w => .lb (rtOf w) (immOf w) (rsOf w)⟩

/-- R206, format I: `100100ssssstttttiiiiiiiiiiiiiiii`. -/
def rowLbu : Row := ⟨"lbu", 0xFC000000, 0x90000000, fun w => .lbu (rtOf w) (immOf w) (rsOf w)⟩

/-- R207, format I: `110101sssssTTTTTiiiiiiiiiiiiiiii`. -/
def rowLdc1 : Row := ⟨"ldc1", 0xFC000000, 0xD4000000, fun w => .ldc1 (rtOf w) (immOf w) (rsOf w)⟩

/-- R208, format I: `100001ssssstttttiiiiiiiiiiiiiiii`. -/
def rowLh : Row := ⟨"lh", 0xFC000000, 0x84000000, fun w => .lh (rtOf w) (immOf w) (rsOf w)⟩

/-- R209, format I: `100101ssssstttttiiiiiiiiiiiiiiii`. -/
def rowLhu : Row := ⟨"lhu", 0xFC000000, 0x94000000, fun w => .lhu (rtOf w) (immOf w) (rsOf w)⟩

/-- R210, format I: `110000ssssstttttiiiiiiiiiiiiiiii`. -/
def rowLl : Row := ⟨"ll", 0xFC000000, 0xC0000000, fun w => .ll (rtOf w) (immOf w) (rsOf w)⟩

/-- R211, format I: `100011ssssstttttiiiiiiiiiiiiiiii`. -/
def rowLw : Row := ⟨"lw", 0xFC000000, 0x8C000000, fun w => .lw (rtOf w) (immOf w) (rsOf w)⟩

/-- R212, format I: `110001sssssTTTTTiiiiiiiiiiiiiiii`. -/
def rowLwc1 : Row := ⟨"lwc1", 0xFC000000, 0xC4000000, fun w => .lwc1 (rtOf w) (immOf w) (rsOf w)⟩

/-- R213, format I: `100010ssssstttttiiiiiiiiiiiiiiii`. -/
def rowLwl : Row := ⟨"lwl", 0xFC000000, 0x88000000, fun w => .lwl (rtOf w) (immOf w) (rsOf w)⟩

/-- R214, format I: `100110ssssstttttiiiiiiiiiiiiiiii`. -/
def rowLwr : Row := ⟨"lwr", 0xFC000000, 0x98000000, fun w => .lwr (rtOf w) (immOf w) (rsOf w)⟩

/-- R215, format I: `101000ssssstttttiiiiiiiiiiiiiiii`. -/
def rowSb : Row := ⟨"sb", 0xFC000000, 0xA0000000, fun w => .sb (rtOf w) (immOf w) (rsOf w)⟩

/-- R216, format I: `111000ssssstttttiiiiiiiiiiiiiiii`. -/
def rowSc : Row := ⟨"sc", 0xFC000000, 0xE0000000, fun w => .sc (rtOf w) (immOf w) (rsOf w)⟩

/-- R217, format I: `111101sssssTTTTTiiiiiiiiiiiiiiii`. -/
def rowSdc1 : Row := ⟨"sdc1", 0xFC000000, 0xF4000000, fun w => .sdc1 (rtOf w) (immOf w) (rsOf w)⟩

/-- R218, format I: `101001ssssstttttiiiiiiiiiiiiiiii`. -/
def rowSh : Row := ⟨"sh", 0xFC000000, 0xA4000000, fun w => .sh (rtOf w) (immOf w) (rsOf w)⟩

/-- R219, format I: `101011ssssstttttiiiiiiiiiiiiiiii`. -/
def rowSw : Row := ⟨"sw", 0xFC000000, 0xAC000000, fun w => .sw (rtOf w) (immOf w) (rsOf w)⟩

/-- R220, format I: `111001sssssTTTTTiiiiiiiiiiiiiiii`. -/
def rowSwc1 : Row := ⟨"swc1", 0xFC000000, 0xE4000000, fun w => .swc1 (rtOf w) (immOf w) (rsOf w)⟩

/-- R221, format I: `101010ssssstttttiiiiiiiiiiiiiiii`. -/
def rowSwl : Row := ⟨"swl", 0xFC000000, 0xA8000000, fun w => .swl (rtOf w) (immOf w) (rsOf w)⟩

/-- R222, format I: `101110ssssstttttiiiiiiiiiiiiiiii`. -/
def rowSwr : Row := ⟨"swr", 0xFC000000, 0xB8000000, fun w => .swr (rtOf w) (immOf w) (rsOf w)⟩

/-! ### Traps, system call, break, Coprocessor 0 (44_trap_system.md) -/

/-- R233, format CODE20: `000000cccccccccccccccccccc001101`. -/
def rowBrk : Row := ⟨"break", 0xFC00003F, 0x0000000D, fun w => .brk (code20Of w)⟩

/-- R234, format C0: `01000010000000000000000000011000`. -/
def rowEret : Row := ⟨"eret", 0xFFFFFFFF, 0x42000018, fun _ => .eret⟩

/-- R235, format C0: `01000000000tttttddddd00000000000`. -/
def rowMfc0 : Row := ⟨"mfc0", 0xFFE007FF, 0x40000000, fun w => .mfc0 (rtOf w) (rdOf w)⟩

/-- R236, format C0: `01000000100tttttddddd00000000000`. -/
def rowMtc0 : Row := ⟨"mtc0", 0xFFE007FF, 0x40800000, fun w => .mtc0 (rtOf w) (rdOf w)⟩

/-- R237, format CODE20: `000000cccccccccccccccccccc001100`. -/
def rowSyscall : Row := ⟨"syscall", 0xFC00003F, 0x0000000C, fun w => .syscall (code20Of w)⟩

/-- R238, format TRAP: `000000ssssstttttcccccccccc110100`. -/
def rowTeq : Row := ⟨"teq", 0xFC00003F, 0x00000034, fun w => .teq (rsOf w) (rtOf w) (code10Of w)⟩

/-- R239, format RI: `000001sssss01100iiiiiiiiiiiiiiii`. -/
def rowTeqi : Row := ⟨"teqi", 0xFC1F0000, 0x040C0000, fun w => .teqi (rsOf w) (immOf w)⟩

/-- R240, format TRAP: `000000ssssstttttcccccccccc110000`. -/
def rowTge : Row := ⟨"tge", 0xFC00003F, 0x00000030, fun w => .tge (rsOf w) (rtOf w) (code10Of w)⟩

/-- R241, format RI: `000001sssss01000iiiiiiiiiiiiiiii`. -/
def rowTgei : Row := ⟨"tgei", 0xFC1F0000, 0x04080000, fun w => .tgei (rsOf w) (immOf w)⟩

/-- R242, format RI: `000001sssss01001iiiiiiiiiiiiiiii`. -/
def rowTgeiu : Row := ⟨"tgeiu", 0xFC1F0000, 0x04090000, fun w => .tgeiu (rsOf w) (immOf w)⟩

/-- R243, format TRAP: `000000ssssstttttcccccccccc110001`. -/
def rowTgeu : Row := ⟨"tgeu", 0xFC00003F, 0x00000031, fun w => .tgeu (rsOf w) (rtOf w) (code10Of w)⟩

/-- R244, format TRAP: `000000ssssstttttcccccccccc110010`. -/
def rowTlt : Row := ⟨"tlt", 0xFC00003F, 0x00000032, fun w => .tlt (rsOf w) (rtOf w) (code10Of w)⟩

/-- R245, format RI: `000001sssss01010iiiiiiiiiiiiiiii`. -/
def rowTlti : Row := ⟨"tlti", 0xFC1F0000, 0x040A0000, fun w => .tlti (rsOf w) (immOf w)⟩

/-- R246, format RI: `000001sssss01011iiiiiiiiiiiiiiii`. -/
def rowTltiu : Row := ⟨"tltiu", 0xFC1F0000, 0x040B0000, fun w => .tltiu (rsOf w) (immOf w)⟩

/-- R247, format TRAP: `000000ssssstttttcccccccccc110011`. -/
def rowTltu : Row := ⟨"tltu", 0xFC00003F, 0x00000033, fun w => .tltu (rsOf w) (rtOf w) (code10Of w)⟩

/-- R248, format TRAP: `000000ssssstttttcccccccccc110110`. -/
def rowTne : Row := ⟨"tne", 0xFC00003F, 0x00000036, fun w => .tne (rsOf w) (rtOf w) (code10Of w)⟩

/-- R249, format RI: `000001sssss01110iiiiiiiiiiiiiiii`. -/
def rowTnei : Row := ⟨"tnei", 0xFC1F0000, 0x040E0000, fun w => .tnei (rsOf w) (immOf w)⟩

/-! ### Floating-point arithmetic (45_fp_arithmetic.md) -/

/-- R267, format FR: `0100011000100000SSSSSDDDDD000101`. -/
def rowAbsD : Row := ⟨"abs.d", 0xFFFF003F, 0x46200005, fun w => .absD (saOf w) (rdOf w)⟩

/-- R268, format FR: `0100011000000000SSSSSDDDDD000101`. -/
def rowAbsS : Row := ⟨"abs.s", 0xFFFF003F, 0x46000005, fun w => .absS (saOf w) (rdOf w)⟩

/-- R269, format FR: `01000110001TTTTTSSSSSDDDDD000000`. -/
def rowAddD : Row := ⟨"add.d", 0xFFE0003F, 0x46200000, fun w => .addD (saOf w) (rdOf w) (rtOf w)⟩

/-- R270, format FR: `01000110000TTTTTSSSSSDDDDD000000`. -/
def rowAddS : Row := ⟨"add.s", 0xFFE0003F, 0x46000000, fun w => .addS (saOf w) (rdOf w) (rtOf w)⟩

/-- R271, format FR: `01000110001TTTTTSSSSSDDDDD000011`. -/
def rowDivD : Row := ⟨"div.d", 0xFFE0003F, 0x46200003, fun w => .divD (saOf w) (rdOf w) (rtOf w)⟩

/-- R272, format FR: `01000110000TTTTTSSSSSDDDDD000011`. -/
def rowDivS : Row := ⟨"div.s", 0xFFE0003F, 0x46000003, fun w => .divS (saOf w) (rdOf w) (rtOf w)⟩

/-- R273, format FR: `01000110001TTTTTSSSSSDDDDD000010`. -/
def rowMulD : Row := ⟨"mul.d", 0xFFE0003F, 0x46200002, fun w => .mulD (saOf w) (rdOf w) (rtOf w)⟩

/-- R274, format FR: `01000110000TTTTTSSSSSDDDDD000010`. -/
def rowMulS : Row := ⟨"mul.s", 0xFFE0003F, 0x46000002, fun w => .mulS (saOf w) (rdOf w) (rtOf w)⟩

/-- R275, format FR: `0100011000100000SSSSSDDDDD000111`. -/
def rowNegD : Row := ⟨"neg.d", 0xFFFF003F, 0x46200007, fun w => .negD (saOf w) (rdOf w)⟩

/-- R276, format FR: `0100011000000000SSSSSDDDDD000111`. -/
def rowNegS : Row := ⟨"neg.s", 0xFFFF003F, 0x46000007, fun w => .negS (saOf w) (rdOf w)⟩

/-- R277, format FR: `0100011000100000SSSSSDDDDD000100`. -/
def rowSqrtD : Row := ⟨"sqrt.d", 0xFFFF003F, 0x46200004, fun w => .sqrtD (saOf w) (rdOf w)⟩

/-- R278, format FR: `0100011000000000SSSSSDDDDD000100`. -/
def rowSqrtS : Row := ⟨"sqrt.s", 0xFFFF003F, 0x46000004, fun w => .sqrtS (saOf w) (rdOf w)⟩

/-- R279, format FR: `01000110001TTTTTSSSSSDDDDD000001`. -/
def rowSubD : Row := ⟨"sub.d", 0xFFE0003F, 0x46200001, fun w => .subD (saOf w) (rdOf w) (rtOf w)⟩

/-- R280, format FR: `01000110000TTTTTSSSSSDDDDD000001`. -/
def rowSubS : Row := ⟨"sub.s", 0xFFE0003F, 0x46000001, fun w => .subS (saOf w) (rdOf w) (rtOf w)⟩

/-! ### Floating-point compare, convert, move (46_fp_compare_convert_move.md) -/

/-- R294, format FCMP: `01000110001TTTTTSSSSSkkk00110010`. -/
def rowCEqD : Row := ⟨"c.eq.d", 0xFFE000FF, 0x46200032, fun w => .cEqD (ccCmpOf w) (rdOf w) (rtOf w)⟩

/-- R295, format FCMP: `01000110000TTTTTSSSSSkkk00110010`. -/
def rowCEqS : Row := ⟨"c.eq.s", 0xFFE000FF, 0x46000032, fun w => .cEqS (ccCmpOf w) (rdOf w) (rtOf w)⟩

/-- R296, format FCMP: `01000110001TTTTTSSSSSkkk00111110`. -/
def rowCLeD : Row := ⟨"c.le.d", 0xFFE000FF, 0x4620003E, fun w => .cLeD (ccCmpOf w) (rdOf w) (rtOf w)⟩

/-- R297, format FCMP: `01000110000TTTTTSSSSSkkk00111110`. -/
def rowCLeS : Row := ⟨"c.le.s", 0xFFE000FF, 0x4600003E, fun w => .cLeS (ccCmpOf w) (rdOf w) (rtOf w)⟩

/-- R298, format FCMP: `01000110001TTTTTSSSSSkkk00111100`. -/
def rowCLtD : Row := ⟨"c.lt.d", 0xFFE000FF, 0x4620003C, fun w => .cLtD (ccCmpOf w) (rdOf w) (rtOf w)⟩

/-- R299, format FCMP: `01000110000TTTTTSSSSSkkk00111100`. -/
def rowCLtS : Row := ⟨"c.lt.s", 0xFFE000FF, 0x4600003C, fun w => .cLtS (ccCmpOf w) (rdOf w) (rtOf w)⟩

/-- R300, format FR: `0100011000100000SSSSSDDDDD001110`. -/
def rowCeilWD : Row := ⟨"ceil.w.d", 0xFFFF003F, 0x4620000E, fun w => .ceilWD (saOf w) (rdOf w)⟩

/-- R301, format FR: `0100011000000000SSSSSDDDDD001110`. -/
def rowCeilWS : Row := ⟨"ceil.w.s", 0xFFFF003F, 0x4600000E, fun w => .ceilWS (saOf w) (rdOf w)⟩

/-- R302, format FR: `0100011000000000SSSSSDDDDD100001`. -/
def rowCvtDS : Row := ⟨"cvt.d.s", 0xFFFF003F, 0x46000021, fun w => .cvtDS (saOf w) (rdOf w)⟩

/-- R303, format FR: `0100011010000000SSSSSDDDDD100001`. -/
def rowCvtDW : Row := ⟨"cvt.d.w", 0xFFFF003F, 0x46800021, fun w => .cvtDW (saOf w) (rdOf w)⟩

/-- R304, format FR: `0100011000100000SSSSSDDDDD100000`. -/
def rowCvtSD : Row := ⟨"cvt.s.d", 0xFFFF003F, 0x46200020, fun w => .cvtSD (saOf w) (rdOf w)⟩

/-- R305, format FR: `0100011010000000SSSSSDDDDD100000`. -/
def rowCvtSW : Row := ⟨"cvt.s.w", 0xFFFF003F, 0x46800020, fun w => .cvtSW (saOf w) (rdOf w)⟩

/-- R306, format FR: `0100011000100000SSSSSDDDDD100100`. -/
def rowCvtWD : Row := ⟨"cvt.w.d", 0xFFFF003F, 0x46200024, fun w => .cvtWD (saOf w) (rdOf w)⟩

/-- R307, format FR: `0100011000000000SSSSSDDDDD100100`. -/
def rowCvtWS : Row := ⟨"cvt.w.s", 0xFFFF003F, 0x46000024, fun w => .cvtWS (saOf w) (rdOf w)⟩

/-- R308, format FR: `0100011000100000SSSSSDDDDD001111`. -/
def rowFloorWD : Row := ⟨"floor.w.d", 0xFFFF003F, 0x4620000F, fun w => .floorWD (saOf w) (rdOf w)⟩

/-- R309, format FR: `0100011000000000SSSSSDDDDD001111`. -/
def rowFloorWS : Row := ⟨"floor.w.s", 0xFFFF003F, 0x4600000F, fun w => .floorWS (saOf w) (rdOf w)⟩

/-- R310, format FM: `01000100000tttttSSSSS00000000000`. -/
def rowMfc1 : Row := ⟨"mfc1", 0xFFE007FF, 0x44000000, fun w => .mfc1 (rtOf w) (rdOf w)⟩

/-- R311, format FR: `0100011000100000SSSSSDDDDD000110`. -/
def rowMovD : Row := ⟨"mov.d", 0xFFFF003F, 0x46200006, fun w => .movD (saOf w) (rdOf w)⟩

/-- R312, format FR: `0100011000000000SSSSSDDDDD000110`. -/
def rowMovS : Row := ⟨"mov.s", 0xFFFF003F, 0x46000006, fun w => .movS (saOf w) (rdOf w)⟩

/-- R313, format MOVCI: `000000ssssskkk00ddddd00000000001`. -/
def rowMovf : Row := ⟨"movf", 0xFC0307FF, 0x00000001, fun w => .movf (rdOf w) (rsOf w) (ccOf w)⟩

/-- R314, format FMOVCF: `01000110001kkk00SSSSSDDDDD010001`. -/
def rowMovfD : Row := ⟨"movf.d", 0xFFE3003F, 0x46200011, fun w => .movfD (saOf w) (rdOf w) (ccOf w)⟩

/-- R315, format FMOVCF: `01000110000kkk00SSSSSDDDDD010001`. -/
def rowMovfS : Row := ⟨"movf.s", 0xFFE3003F, 0x46000011, fun w => .movfS (saOf w) (rdOf w) (ccOf w)⟩

/-- R316, format FMOVGPR: `01000110001tttttSSSSSDDDDD010011`. -/
def rowMovnD : Row := ⟨"movn.d", 0xFFE0003F, 0x46200013, fun w => .movnD (saOf w) (rdOf w) (rtOf w)⟩

/-- R317, format FMOVGPR: `01000110000tttttSSSSSDDDDD010011`. -/
def rowMovnS : Row := ⟨"movn.s", 0xFFE0003F, 0x46000013, fun w => .movnS (saOf w) (rdOf w) (rtOf w)⟩

/-- R318, format MOVCI: `000000ssssskkk01ddddd00000000001`. -/
def rowMovt : Row := ⟨"movt", 0xFC0307FF, 0x00010001, fun w => .movt (rdOf w) (rsOf w) (ccOf w)⟩

/-- R319, format FMOVCF: `01000110001kkk01SSSSSDDDDD010001`. -/
def rowMovtD : Row := ⟨"movt.d", 0xFFE3003F, 0x46210011, fun w => .movtD (saOf w) (rdOf w) (ccOf w)⟩

/-- R320, format FMOVCF: `01000110000kkk01SSSSSDDDDD010001`. -/
def rowMovtS : Row := ⟨"movt.s", 0xFFE3003F, 0x46010011, fun w => .movtS (saOf w) (rdOf w) (ccOf w)⟩

/-- R321, format FMOVGPR: `01000110001tttttSSSSSDDDDD010010`. -/
def rowMovzD : Row := ⟨"movz.d", 0xFFE0003F, 0x46200012, fun w => .movzD (saOf w) (rdOf w) (rtOf w)⟩

/-- R322, format FMOVGPR: `01000110000tttttSSSSSDDDDD010010`. -/
def rowMovzS : Row := ⟨"movz.s", 0xFFE0003F, 0x46000012, fun w => .movzS (saOf w) (rdOf w) (rtOf w)⟩

/-- R323, format FM: `01000100100tttttSSSSS00000000000`. -/
def rowMtc1 : Row := ⟨"mtc1", 0xFFE007FF, 0x44800000, fun w => .mtc1 (rtOf w) (rdOf w)⟩

/-- R324, format FR: `0100011000100000SSSSSDDDDD001100`. -/
def rowRoundWD : Row := ⟨"round.w.d", 0xFFFF003F, 0x4620000C, fun w => .roundWD (saOf w) (rdOf w)⟩

/-- R325, format FR: `0100011000000000SSSSSDDDDD001100`. -/
def rowRoundWS : Row := ⟨"round.w.s", 0xFFFF003F, 0x4600000C, fun w => .roundWS (saOf w) (rdOf w)⟩

/-- R326, format FR: `0100011000100000SSSSSDDDDD001101`. -/
def rowTruncWD : Row := ⟨"trunc.w.d", 0xFFFF003F, 0x4620000D, fun w => .truncWD (saOf w) (rdOf w)⟩

/-- R327, format FR: `0100011000000000SSSSSDDDDD001101`. -/
def rowTruncWS : Row := ⟨"trunc.w.s", 0xFFFF003F, 0x4600000D, fun w => .truncWS (saOf w) (rdOf w)⟩

/-- The rows of Integer arithmetic, logic, shifts, comparisons, conditional moves (40_integer_alu.md). `nop` stands before `sll`, inside which its word lies (30_encoding.md R92; log 9). -/
def rows40 : List Row :=
  [rowNop, rowAdd, rowAddi, rowAddiu, rowAddu, rowAnd, rowAndi, rowClo, rowClz, rowLui, rowMovn, rowMovz, rowNor, rowOr,
   rowOri, rowSll, rowSllv, rowSlt, rowSlti, rowSltiu, rowSltu, rowSra, rowSrav, rowSrl, rowSrlv, rowSub, rowSubu,
   rowXor, rowXori]

/-- The rows of Multiply, divide, HI and LO (41_multiply_divide.md). -/
def rows41 : List Row :=
  [rowDiv, rowDivu, rowMadd, rowMaddu, rowMfhi, rowMflo, rowMsub, rowMsubu, rowMthi, rowMtlo, rowMul, rowMult, rowMultu]

/-- The rows of Branches and jumps (42_branch_jump.md). -/
def rows42 : List Row :=
  [rowBc1f, rowBc1t, rowBeq, rowBgez, rowBgezal, rowBgtz, rowBlez, rowBltz, rowBltzal, rowBne, rowJ, rowJal, rowJalr,
   rowJr]

/-- The rows of Loads and stores (43_load_store.md). -/
def rows43 : List Row :=
  [rowLb, rowLbu, rowLdc1, rowLh, rowLhu, rowLl, rowLw, rowLwc1, rowLwl, rowLwr, rowSb, rowSc, rowSdc1, rowSh, rowSw,
   rowSwc1, rowSwl, rowSwr]

/-- The rows of Traps, system call, break, Coprocessor 0 (44_trap_system.md). -/
def rows44 : List Row :=
  [rowBrk, rowEret, rowMfc0, rowMtc0, rowSyscall, rowTeq, rowTeqi, rowTge, rowTgei, rowTgeiu, rowTgeu, rowTlt, rowTlti,
   rowTltiu, rowTltu, rowTne, rowTnei]

/-- The rows of Floating-point arithmetic (45_fp_arithmetic.md). -/
def rows45 : List Row :=
  [rowAbsD, rowAbsS, rowAddD, rowAddS, rowDivD, rowDivS, rowMulD, rowMulS, rowNegD, rowNegS, rowSqrtD, rowSqrtS,
   rowSubD, rowSubS]

/-- The rows of Floating-point compare, convert, move (46_fp_compare_convert_move.md). -/
def rows46 : List Row :=
  [rowCEqD, rowCEqS, rowCLeD, rowCLeS, rowCLtD, rowCLtS, rowCeilWD, rowCeilWS, rowCvtDS, rowCvtDW, rowCvtSD, rowCvtSW,
   rowCvtWD, rowCvtWS, rowFloorWD, rowFloorWS, rowMfc1, rowMovD, rowMovS, rowMovf, rowMovfD, rowMovfS, rowMovnD,
   rowMovnS, rowMovt, rowMovtD, rowMovtS, rowMovzD, rowMovzS, rowMtc1, rowRoundWD, rowRoundWS, rowTruncWD, rowTruncWS]

/-- The whole opcode table, 139 rows. -/
def opcodeRows : List Row := rows40 ++ rows41 ++ rows42 ++ rows43 ++ rows44 ++ rows45 ++ rows46

/-- Why bytes are no instruction. -/
inductive DecodeError where
  /-- the word matches no row: a reserved instruction (30_encoding.md R108) -/
  | reservedInstruction (w : Word)
  /-- fewer than the four bytes of an instruction word (30_encoding.md R90) -/
  | truncated
deriving DecidableEq, Repr

/-- The instruction a word is (10_state.md R26 step 5). -/
def decodeWord (w : Word) : Except DecodeError Instr :=
  match opcodeRows.find? fun r => r.selects w with
  | some r => .ok (r.build w)
  | none => .error (.reservedInstruction w)

/-- The word whose bytes stand at rising addresses, the first at the lowest: little-endian (20_memory.md R62). -/
def wordOfBytes (b0 b1 b2 b3 : Byte) : Word := b3 ++ b2 ++ b1 ++ b0

/-- The four bytes of a word, lowest address first (20_memory.md R62). -/
def bytesOfWord (w : Word) : List Byte :=
  [w.extractLsb' 0 8, w.extractLsb' 8 8, w.extractLsb' 16 8, w.extractLsb' 24 8]

/-- The instruction that starts a list of bytes, with the bytes after it. Total on any bytes. -/
def decode : List Byte → Except DecodeError (Instr × List Byte)
  | b0 :: b1 :: b2 :: b3 :: rest =>
    match decodeWord (wordOfBytes b0 b1 b2 b3) with
    | .ok i => .ok (i, rest)
    | .error e => .error e
  | _ => .error .truncated

/-- The decoder on an instruction given as the number of its bits, bit 0 the least significant of its word. -/
def decodeTableWord (nbits w : Nat) : Option Instr :=
  match decode (bytesOfWord (BitVec.ofNat 32 (w % 2 ^ nbits))) with
  | .ok (i, _) => some i
  | .error _ => none

/-! ### The encoder -/

/-- The six fields of formats R, R2, MOVCI, C0, FM, FR, FCMP, FMOVCF, FMOVGPR (30_encoding.md R93). -/
def wordR (op : BitVec 6) (rs rt rd sa : Reg) (funct : BitVec 6) : Word := op ++ rs ++ rt ++ rd ++ sa ++ funct

/-- Formats I, RI and FB (30_encoding.md R93). -/
def wordI (op : BitVec 6) (rs rt : Reg) (imm : Imm16) : Word := op ++ rs ++ rt ++ imm

/-- Format J (30_encoding.md R93). -/
def wordJ (op : BitVec 6) (index : BitVec 26) : Word := op ++ index

/-- Format TRAP (30_encoding.md R93). -/
def wordTrap (rs rt : Reg) (code : BitVec 10) (funct : BitVec 6) : Word := 0#6 ++ rs ++ rt ++ code ++ funct

/-- Format CODE20 (30_encoding.md R93). -/
def wordCode (code : BitVec 20) (funct : BitVec 6) : Word := 0#6 ++ code ++ funct

/-- Bits 20:16 of MOVCI, FB and FMOVCF: `cc`, a zero, `tf` (30_encoding.md R93). -/
def ccField (cc : CondFlag) (tf : BitVec 1) : Reg := cc ++ 0#1 ++ tf

/-- Bits 10:6 of FCMP: `cc` and two zeros (30_encoding.md R93). -/
def ccCmpField (cc : CondFlag) : Reg := cc ++ 0#2

/-- The word of an instruction (30_encoding.md R93, R103 to R107). -/
def encode : Instr → Word
  | .add rd rs rt => wordR 0b000000#6 rs rt rd 0#5 0b100000#6
  | .addi rt rs imm => wordI 0b001000#6 rs rt imm
  | .addiu rt rs imm => wordI 0b001001#6 rs rt imm
  | .addu rd rs rt => wordR 0b000000#6 rs rt rd 0#5 0b100001#6
  | .and rd rs rt => wordR 0b000000#6 rs rt rd 0#5 0b100100#6
  | .andi rt rs imm => wordI 0b001100#6 rs rt imm
  | .clo rd rs rt => wordR 0b011100#6 rs rt rd 0#5 0b100001#6
  | .clz rd rs rt => wordR 0b011100#6 rs rt rd 0#5 0b100000#6
  | .lui rt imm => wordI 0b001111#6 0#5 rt imm
  | .movn rd rs rt => wordR 0b000000#6 rs rt rd 0#5 0b001011#6
  | .movz rd rs rt => wordR 0b000000#6 rs rt rd 0#5 0b001010#6
  | .nop => wordR 0b000000#6 0#5 0#5 0#5 0#5 0b000000#6
  | .nor rd rs rt => wordR 0b000000#6 rs rt rd 0#5 0b100111#6
  | .or rd rs rt => wordR 0b000000#6 rs rt rd 0#5 0b100101#6
  | .ori rt rs imm => wordI 0b001101#6 rs rt imm
  | .sll rd rt sa => wordR 0b000000#6 0#5 rt rd sa 0b000000#6
  | .sllv rd rt rs => wordR 0b000000#6 rs rt rd 0#5 0b000100#6
  | .slt rd rs rt => wordR 0b000000#6 rs rt rd 0#5 0b101010#6
  | .slti rt rs imm => wordI 0b001010#6 rs rt imm
  | .sltiu rt rs imm => wordI 0b001011#6 rs rt imm
  | .sltu rd rs rt => wordR 0b000000#6 rs rt rd 0#5 0b101011#6
  | .sra rd rt sa => wordR 0b000000#6 0#5 rt rd sa 0b000011#6
  | .srav rd rt rs => wordR 0b000000#6 rs rt rd 0#5 0b000111#6
  | .srl rd rt sa => wordR 0b000000#6 0#5 rt rd sa 0b000010#6
  | .srlv rd rt rs => wordR 0b000000#6 rs rt rd 0#5 0b000110#6
  | .sub rd rs rt => wordR 0b000000#6 rs rt rd 0#5 0b100010#6
  | .subu rd rs rt => wordR 0b000000#6 rs rt rd 0#5 0b100011#6
  | .xor rd rs rt => wordR 0b000000#6 rs rt rd 0#5 0b100110#6
  | .xori rt rs imm => wordI 0b001110#6 rs rt imm
  | .div rs rt => wordR 0b000000#6 rs rt 0#5 0#5 0b011010#6
  | .divu rs rt => wordR 0b000000#6 rs rt 0#5 0#5 0b011011#6
  | .madd rs rt => wordR 0b011100#6 rs rt 0#5 0#5 0b000000#6
  | .maddu rs rt => wordR 0b011100#6 rs rt 0#5 0#5 0b000001#6
  | .mfhi rd => wordR 0b000000#6 0#5 0#5 rd 0#5 0b010000#6
  | .mflo rd => wordR 0b000000#6 0#5 0#5 rd 0#5 0b010010#6
  | .msub rs rt => wordR 0b011100#6 rs rt 0#5 0#5 0b000100#6
  | .msubu rs rt => wordR 0b011100#6 rs rt 0#5 0#5 0b000101#6
  | .mthi rs => wordR 0b000000#6 rs 0#5 0#5 0#5 0b010001#6
  | .mtlo rs => wordR 0b000000#6 rs 0#5 0#5 0#5 0b010011#6
  | .mul rd rs rt => wordR 0b011100#6 rs rt rd 0#5 0b000010#6
  | .mult rs rt => wordR 0b000000#6 rs rt 0#5 0#5 0b011000#6
  | .multu rs rt => wordR 0b000000#6 rs rt 0#5 0#5 0b011001#6
  | .bc1f cc imm => wordI 0b010001#6 0b01000#5 (ccField cc 0#1) imm
  | .bc1t cc imm => wordI 0b010001#6 0b01000#5 (ccField cc 1#1) imm
  | .beq rs rt imm => wordI 0b000100#6 rs rt imm
  | .bgez rs imm => wordI 0b000001#6 rs 0b00001#5 imm
  | .bgezal rs imm => wordI 0b000001#6 rs 0b10001#5 imm
  | .bgtz rs imm => wordI 0b000111#6 rs 0#5 imm
  | .blez rs imm => wordI 0b000110#6 rs 0#5 imm
  | .bltz rs imm => wordI 0b000001#6 rs 0#5 imm
  | .bltzal rs imm => wordI 0b000001#6 rs 0b10000#5 imm
  | .bne rs rt imm => wordI 0b000101#6 rs rt imm
  | .j index => wordJ 0b000010#6 index
  | .jal index => wordJ 0b000011#6 index
  | .jalr rd rs hint => wordR 0b000000#6 rs 0#5 rd hint 0b001001#6
  | .jr rs hint => wordR 0b000000#6 rs 0#5 0#5 hint 0b001000#6
  | .lb rt imm rs => wordI 0b100000#6 rs rt imm
  | .lbu rt imm rs => wordI 0b100100#6 rs rt imm
  | .ldc1 ft imm rs => wordI 0b110101#6 rs ft imm
  | .lh rt imm rs => wordI 0b100001#6 rs rt imm
  | .lhu rt imm rs => wordI 0b100101#6 rs rt imm
  | .ll rt imm rs => wordI 0b110000#6 rs rt imm
  | .lw rt imm rs => wordI 0b100011#6 rs rt imm
  | .lwc1 ft imm rs => wordI 0b110001#6 rs ft imm
  | .lwl rt imm rs => wordI 0b100010#6 rs rt imm
  | .lwr rt imm rs => wordI 0b100110#6 rs rt imm
  | .sb rt imm rs => wordI 0b101000#6 rs rt imm
  | .sc rt imm rs => wordI 0b111000#6 rs rt imm
  | .sdc1 ft imm rs => wordI 0b111101#6 rs ft imm
  | .sh rt imm rs => wordI 0b101001#6 rs rt imm
  | .sw rt imm rs => wordI 0b101011#6 rs rt imm
  | .swc1 ft imm rs => wordI 0b111001#6 rs ft imm
  | .swl rt imm rs => wordI 0b101010#6 rs rt imm
  | .swr rt imm rs => wordI 0b101110#6 rs rt imm
  | .brk code => wordCode code 0b001101#6
  | .eret => wordR 0b010000#6 0b10000#5 0#5 0#5 0#5 0b011000#6
  | .mfc0 rt rd => wordR 0b010000#6 0#5 rt rd 0#5 0b000000#6
  | .mtc0 rt rd => wordR 0b010000#6 0b00100#5 rt rd 0#5 0b000000#6
  | .syscall code => wordCode code 0b001100#6
  | .teq rs rt code => wordTrap rs rt code 0b110100#6
  | .teqi rs imm => wordI 0b000001#6 rs 0b01100#5 imm
  | .tge rs rt code => wordTrap rs rt code 0b110000#6
  | .tgei rs imm => wordI 0b000001#6 rs 0b01000#5 imm
  | .tgeiu rs imm => wordI 0b000001#6 rs 0b01001#5 imm
  | .tgeu rs rt code => wordTrap rs rt code 0b110001#6
  | .tlt rs rt code => wordTrap rs rt code 0b110010#6
  | .tlti rs imm => wordI 0b000001#6 rs 0b01010#5 imm
  | .tltiu rs imm => wordI 0b000001#6 rs 0b01011#5 imm
  | .tltu rs rt code => wordTrap rs rt code 0b110011#6
  | .tne rs rt code => wordTrap rs rt code 0b110110#6
  | .tnei rs imm => wordI 0b000001#6 rs 0b01110#5 imm
  | .absD fd fs => wordR 0b010001#6 0b10001#5 0#5 fs fd 0b000101#6
  | .absS fd fs => wordR 0b010001#6 0b10000#5 0#5 fs fd 0b000101#6
  | .addD fd fs ft => wordR 0b010001#6 0b10001#5 ft fs fd 0b000000#6
  | .addS fd fs ft => wordR 0b010001#6 0b10000#5 ft fs fd 0b000000#6
  | .divD fd fs ft => wordR 0b010001#6 0b10001#5 ft fs fd 0b000011#6
  | .divS fd fs ft => wordR 0b010001#6 0b10000#5 ft fs fd 0b000011#6
  | .mulD fd fs ft => wordR 0b010001#6 0b10001#5 ft fs fd 0b000010#6
  | .mulS fd fs ft => wordR 0b010001#6 0b10000#5 ft fs fd 0b000010#6
  | .negD fd fs => wordR 0b010001#6 0b10001#5 0#5 fs fd 0b000111#6
  | .negS fd fs => wordR 0b010001#6 0b10000#5 0#5 fs fd 0b000111#6
  | .sqrtD fd fs => wordR 0b010001#6 0b10001#5 0#5 fs fd 0b000100#6
  | .sqrtS fd fs => wordR 0b010001#6 0b10000#5 0#5 fs fd 0b000100#6
  | .subD fd fs ft => wordR 0b010001#6 0b10001#5 ft fs fd 0b000001#6
  | .subS fd fs ft => wordR 0b010001#6 0b10000#5 ft fs fd 0b000001#6
  | .cEqD cc fs ft => wordR 0b010001#6 0b10001#5 ft fs (ccCmpField cc) 0b110010#6
  | .cEqS cc fs ft => wordR 0b010001#6 0b10000#5 ft fs (ccCmpField cc) 0b110010#6
  | .cLeD cc fs ft => wordR 0b010001#6 0b10001#5 ft fs (ccCmpField cc) 0b111110#6
  | .cLeS cc fs ft => wordR 0b010001#6 0b10000#5 ft fs (ccCmpField cc) 0b111110#6
  | .cLtD cc fs ft => wordR 0b010001#6 0b10001#5 ft fs (ccCmpField cc) 0b111100#6
  | .cLtS cc fs ft => wordR 0b010001#6 0b10000#5 ft fs (ccCmpField cc) 0b111100#6
  | .ceilWD fd fs => wordR 0b010001#6 0b10001#5 0#5 fs fd 0b001110#6
  | .ceilWS fd fs => wordR 0b010001#6 0b10000#5 0#5 fs fd 0b001110#6
  | .cvtDS fd fs => wordR 0b010001#6 0b10000#5 0#5 fs fd 0b100001#6
  | .cvtDW fd fs => wordR 0b010001#6 0b10100#5 0#5 fs fd 0b100001#6
  | .cvtSD fd fs => wordR 0b010001#6 0b10001#5 0#5 fs fd 0b100000#6
  | .cvtSW fd fs => wordR 0b010001#6 0b10100#5 0#5 fs fd 0b100000#6
  | .cvtWD fd fs => wordR 0b010001#6 0b10001#5 0#5 fs fd 0b100100#6
  | .cvtWS fd fs => wordR 0b010001#6 0b10000#5 0#5 fs fd 0b100100#6
  | .floorWD fd fs => wordR 0b010001#6 0b10001#5 0#5 fs fd 0b001111#6
  | .floorWS fd fs => wordR 0b010001#6 0b10000#5 0#5 fs fd 0b001111#6
  | .mfc1 rt fs => wordR 0b010001#6 0#5 rt fs 0#5 0b000000#6
  | .movD fd fs => wordR 0b010001#6 0b10001#5 0#5 fs fd 0b000110#6
  | .movS fd fs => wordR 0b010001#6 0b10000#5 0#5 fs fd 0b000110#6
  | .movf rd rs cc => wordR 0b000000#6 rs (ccField cc 0#1) rd 0#5 0b000001#6
  | .movfD fd fs cc => wordR 0b010001#6 0b10001#5 (ccField cc 0#1) fs fd 0b010001#6
  | .movfS fd fs cc => wordR 0b010001#6 0b10000#5 (ccField cc 0#1) fs fd 0b010001#6
  | .movnD fd fs rt => wordR 0b010001#6 0b10001#5 rt fs fd 0b010011#6
  | .movnS fd fs rt => wordR 0b010001#6 0b10000#5 rt fs fd 0b010011#6
  | .movt rd rs cc => wordR 0b000000#6 rs (ccField cc 1#1) rd 0#5 0b000001#6
  | .movtD fd fs cc => wordR 0b010001#6 0b10001#5 (ccField cc 1#1) fs fd 0b010001#6
  | .movtS fd fs cc => wordR 0b010001#6 0b10000#5 (ccField cc 1#1) fs fd 0b010001#6
  | .movzD fd fs rt => wordR 0b010001#6 0b10001#5 rt fs fd 0b010010#6
  | .movzS fd fs rt => wordR 0b010001#6 0b10000#5 rt fs fd 0b010010#6
  | .mtc1 rt fs => wordR 0b010001#6 0b00100#5 rt fs 0#5 0b000000#6
  | .roundWD fd fs => wordR 0b010001#6 0b10001#5 0#5 fs fd 0b001100#6
  | .roundWS fd fs => wordR 0b010001#6 0b10000#5 0#5 fs fd 0b001100#6
  | .truncWD fd fs => wordR 0b010001#6 0b10001#5 0#5 fs fd 0b001101#6
  | .truncWS fd fs => wordR 0b010001#6 0b10000#5 0#5 fs fd 0b001101#6

/-- The row of the opcode table that an instruction is of. -/
def rowOf : Instr → Row
  | .add _ _ _ => rowAdd
  | .addi _ _ _ => rowAddi
  | .addiu _ _ _ => rowAddiu
  | .addu _ _ _ => rowAddu
  | .and _ _ _ => rowAnd
  | .andi _ _ _ => rowAndi
  | .clo _ _ _ => rowClo
  | .clz _ _ _ => rowClz
  | .lui _ _ => rowLui
  | .movn _ _ _ => rowMovn
  | .movz _ _ _ => rowMovz
  | .nop => rowNop
  | .nor _ _ _ => rowNor
  | .or _ _ _ => rowOr
  | .ori _ _ _ => rowOri
  | .sll _ _ _ => rowSll
  | .sllv _ _ _ => rowSllv
  | .slt _ _ _ => rowSlt
  | .slti _ _ _ => rowSlti
  | .sltiu _ _ _ => rowSltiu
  | .sltu _ _ _ => rowSltu
  | .sra _ _ _ => rowSra
  | .srav _ _ _ => rowSrav
  | .srl _ _ _ => rowSrl
  | .srlv _ _ _ => rowSrlv
  | .sub _ _ _ => rowSub
  | .subu _ _ _ => rowSubu
  | .xor _ _ _ => rowXor
  | .xori _ _ _ => rowXori
  | .div _ _ => rowDiv
  | .divu _ _ => rowDivu
  | .madd _ _ => rowMadd
  | .maddu _ _ => rowMaddu
  | .mfhi _ => rowMfhi
  | .mflo _ => rowMflo
  | .msub _ _ => rowMsub
  | .msubu _ _ => rowMsubu
  | .mthi _ => rowMthi
  | .mtlo _ => rowMtlo
  | .mul _ _ _ => rowMul
  | .mult _ _ => rowMult
  | .multu _ _ => rowMultu
  | .bc1f _ _ => rowBc1f
  | .bc1t _ _ => rowBc1t
  | .beq _ _ _ => rowBeq
  | .bgez _ _ => rowBgez
  | .bgezal _ _ => rowBgezal
  | .bgtz _ _ => rowBgtz
  | .blez _ _ => rowBlez
  | .bltz _ _ => rowBltz
  | .bltzal _ _ => rowBltzal
  | .bne _ _ _ => rowBne
  | .j _ => rowJ
  | .jal _ => rowJal
  | .jalr _ _ _ => rowJalr
  | .jr _ _ => rowJr
  | .lb _ _ _ => rowLb
  | .lbu _ _ _ => rowLbu
  | .ldc1 _ _ _ => rowLdc1
  | .lh _ _ _ => rowLh
  | .lhu _ _ _ => rowLhu
  | .ll _ _ _ => rowLl
  | .lw _ _ _ => rowLw
  | .lwc1 _ _ _ => rowLwc1
  | .lwl _ _ _ => rowLwl
  | .lwr _ _ _ => rowLwr
  | .sb _ _ _ => rowSb
  | .sc _ _ _ => rowSc
  | .sdc1 _ _ _ => rowSdc1
  | .sh _ _ _ => rowSh
  | .sw _ _ _ => rowSw
  | .swc1 _ _ _ => rowSwc1
  | .swl _ _ _ => rowSwl
  | .swr _ _ _ => rowSwr
  | .brk _ => rowBrk
  | .eret => rowEret
  | .mfc0 _ _ => rowMfc0
  | .mtc0 _ _ => rowMtc0
  | .syscall _ => rowSyscall
  | .teq _ _ _ => rowTeq
  | .teqi _ _ => rowTeqi
  | .tge _ _ _ => rowTge
  | .tgei _ _ => rowTgei
  | .tgeiu _ _ => rowTgeiu
  | .tgeu _ _ _ => rowTgeu
  | .tlt _ _ _ => rowTlt
  | .tlti _ _ => rowTlti
  | .tltiu _ _ => rowTltiu
  | .tltu _ _ _ => rowTltu
  | .tne _ _ _ => rowTne
  | .tnei _ _ => rowTnei
  | .absD _ _ => rowAbsD
  | .absS _ _ => rowAbsS
  | .addD _ _ _ => rowAddD
  | .addS _ _ _ => rowAddS
  | .divD _ _ _ => rowDivD
  | .divS _ _ _ => rowDivS
  | .mulD _ _ _ => rowMulD
  | .mulS _ _ _ => rowMulS
  | .negD _ _ => rowNegD
  | .negS _ _ => rowNegS
  | .sqrtD _ _ => rowSqrtD
  | .sqrtS _ _ => rowSqrtS
  | .subD _ _ _ => rowSubD
  | .subS _ _ _ => rowSubS
  | .cEqD _ _ _ => rowCEqD
  | .cEqS _ _ _ => rowCEqS
  | .cLeD _ _ _ => rowCLeD
  | .cLeS _ _ _ => rowCLeS
  | .cLtD _ _ _ => rowCLtD
  | .cLtS _ _ _ => rowCLtS
  | .ceilWD _ _ => rowCeilWD
  | .ceilWS _ _ => rowCeilWS
  | .cvtDS _ _ => rowCvtDS
  | .cvtDW _ _ => rowCvtDW
  | .cvtSD _ _ => rowCvtSD
  | .cvtSW _ _ => rowCvtSW
  | .cvtWD _ _ => rowCvtWD
  | .cvtWS _ _ => rowCvtWS
  | .floorWD _ _ => rowFloorWD
  | .floorWS _ _ => rowFloorWS
  | .mfc1 _ _ => rowMfc1
  | .movD _ _ => rowMovD
  | .movS _ _ => rowMovS
  | .movf _ _ _ => rowMovf
  | .movfD _ _ _ => rowMovfD
  | .movfS _ _ _ => rowMovfS
  | .movnD _ _ _ => rowMovnD
  | .movnS _ _ _ => rowMovnS
  | .movt _ _ _ => rowMovt
  | .movtD _ _ _ => rowMovtD
  | .movtS _ _ _ => rowMovtS
  | .movzD _ _ _ => rowMovzD
  | .movzS _ _ _ => rowMovzS
  | .mtc1 _ _ => rowMtc1
  | .roundWD _ _ => rowRoundWD
  | .roundWS _ _ => rowRoundWS
  | .truncWD _ _ => rowTruncWD
  | .truncWS _ _ => rowTruncWS

end Sys2Proof
end

