-- ==== Sys2Proof/Machine/Fetch.lean ====
section
/-! DEFINITION. Fetching an instruction (10_state.md R26 steps 1 to 5, 60_exceptions.md R347). -/

namespace Sys2Proof.Machine

/-- The four bytes at pc, lowest address first (20_memory.md R62). -/
def State.fetchBytes (s : State) : List Byte :=
  [s.mem.read s.pc.toNat, s.mem.read (s.pc.toNat + 1), s.mem.read (s.pc.toNat + 2), s.mem.read (s.pc.toNat + 3)]

/-- Steps 1 to 5 of 10_state.md R26, in their order: the instruction to execute, or the outcome of a step that executes none. -/
def fetch (s : State) : Except Result Instr :=
  match s.run with
  | .ended how => .error (.fault (.runOver how))
  | .running =>
    if s.pc = s.launch.endPc then .error (.fault (.runOver .droppedOff))
    else if s.pc.toNat % 4 ≠ 0 then .error (raise (.addressErrorLoad s.pc) s)
    else if s.launch.isText s.pc.toNat = false then .error (.fault (.fetchOutsideProgram s.pc))
    else
      match decode s.fetchBytes with
      | .ok (i, _) => .ok i
      | .error _ => .error (raise .reservedInstruction s)

end Sys2Proof.Machine
end

