-- ==== Sys2Proof/Machine/Load.lean ====
section
/-! DEFINITION. The loader (70_reset_and_hazards.md R380, R381): the launch state of a program, and one word placed where the next
fetch reads. The loader is outside the machine: no step calls it. Log 3. -/

namespace Sys2Proof.Machine

/-- An exception handler: the address EXC_HANDLER and the words placed there (70_reset_and_hazards.md R381 step 5). -/
structure Handler where
  base : Word
  words : List Word
deriving DecidableEq, Repr

/-- The default address of a handler, in kernel text (70_reset_and_hazards.md R381 step 5). -/
def defaultHandlerBase : Word := 0x80000180

/-- The default address of a program's data (70_reset_and_hazards.md R381 step 4). -/
def defaultDataBase : Word := 0x10010000

/-- What the loader is given (70_reset_and_hazards.md R381): the launch memory, the program's words from the text base, the bytes of
its data, and its handler, if it has one. -/
structure Program where
  memMap : List Region := defaultMemMap
  selfMod : Bool := false
  base : Word := textBase
  words : List Word
  data : List Host.Cell := []
  handler : Option Handler := none
deriving DecidableEq, Repr

/-- The bytes `bs` at consecutive addresses from `a`. -/
def cellsFrom (a : Nat) : List Byte → List Host.Cell
  | [] => []
  | b :: bs => (a, b) :: cellsFrom (a + 1) bs

/-- Words at consecutive word addresses from `a`, each in the byte order of 20_memory.md R62. -/
def Memory.placeWords (m : Memory) (a : Nat) (ws : List Word) : Memory := m.writeBytes a (ws.flatMap bytesOfWord)

/-- The handler's words placed (70_reset_and_hazards.md R381 step 5). -/
def placeHandler : Option Handler → Memory → Memory
  | none, m => m
  | some h, m => m.placeWords h.base.toNat h.words

/-- The launch parameters that the loader fixes (70_reset_and_hazards.md R381 steps 1, 2, 3, 5): MEMMAP and SELF_MOD, the images
that are marked text, END after the last word of the program, and EXC_HANDLER. -/
def Program.launch (p : Program) : Launch :=
  { memMap := p.memMap
    selfMod := p.selfMod
    images := ⟨p.base, p.words.length⟩ :: (p.handler.map fun h => ⟨h.base, h.words.length⟩).toList
    endPc := p.base + BitVec.ofNat 32 (4 * p.words.length)
    excHandler := p.handler.map Handler.base }

/-- The launch memory (70_reset_and_hazards.md R381 steps 2, 4, 5): the program's words, then those of its data that lie in the data
range, then the handler's words; every other byte reads 0. -/
def Program.memory (p : Program) : Memory :=
  placeHandler p.handler (p.launch.storeCells p.data (Memory.placeWords [] p.base.toNat p.words))

/-- The launch (70_reset_and_hazards.md R380, R381): memory and launch parameters from the program, every register, pc among them,
from `reset`, the parameter RESET (10_state.md R50; its default is State.reset). -/
def Program.launchState (p : Program) (reset : State) : State :=
  { reset with mem := p.memory, launch := p.launch, run := .running }

/-- The loader's work for one instruction word at pc (70_reset_and_hazards.md R381): the word's bytes in memory, the word marked
text, END moved past it where END was this very address, and a run that goes on. Log 3. -/
def loadWordAtPc (s : State) (w : Word) : State :=
  { s with
    mem := s.mem.writeBytes s.pc.toNat (bytesOfWord w)
    run := .running
    launch := { s.launch with
      images := ⟨s.pc, 1⟩ :: s.launch.images
      endPc := if s.launch.endPc = s.pc then s.pc + 4 else s.launch.endPc } }

end Sys2Proof.Machine
end

