-- ==== Sys2Proof/Machine/Step.lean ====
section
/-! DEFINITION. One step of the machine (10_state.md R26): fetch, decode, execute. -/

namespace Sys2Proof.Machine

/-- One step (10_state.md R26): the fetched instruction is executed, or the step ends as the fetch says. -/
def step (s : State) : Host.Outcome State Fault Refusal :=
  match fetch s with
  | .ok i => exec i s
  | .error r => r

/-- The state with the instruction of `nbits` bits `w` stored where the next step fetches (log 3). -/
def State.withFetchWord (s : State) (nbits w : Nat) : State := loadWordAtPc s (BitVec.ofNat 32 (w % 2 ^ nbits))

end Sys2Proof.Machine
end

