-- ==== Sys2Proof/Safety.lean ====
section
/-! DEFINITION. What is asked of a step and of a run: the invariant of the state, and what it means that an instruction changes
nothing but what its rule names (40_integer_alu.md R121, 60_exceptions.md R343). -/

namespace Sys2Proof.Machine

/-- The invariant of the state: memory in its canonical form, and entry 0 of the register file 0 (10_state.md R22). -/
abbrev State.Inv (s : State) : Prop := s.mem.wf ∧ s.gpr[0] = 0

/-- Every general register reads the same. -/
def SameGpr (s t : State) : Prop := ∀ k : Reg, t.x k = s.x k

/-- HI and LO are the same. -/
def SameHiLo (s t : State) : Prop := t.hi = s.hi ∧ t.lo = s.lo

/-- Every coprocessor 1 register reads the same. -/
def SameFpr (s t : State) : Prop := ∀ k : Reg, t.f k = s.f k

/-- Every condition flag reads the same. -/
def SameFlags (s t : State) : Prop := ∀ k : CondFlag, t.flag k = s.flag k

/-- BadVAddr, Status, Cause and EPC are the same. -/
def SameCop0 (s t : State) : Prop :=
  t.badVAddr = s.badVAddr ∧ t.status = s.status ∧ t.cause = s.cause ∧ t.epc = s.epc

/-- Every byte of memory reads the same. -/
def SameMem (s t : State) : Prop := ∀ a : Nat, t.mem.read a = s.mem.read a

/-- The launch parameters, the run and the environment's answers are the same. -/
def SameRun (s t : State) : Prop := t.launch = s.launch ∧ t.run = s.run ∧ t.env = s.env

/-- From `s` to `t` nothing changes but pc, which becomes `target`. -/
def OnlyPc (s t : State) (target : Word) : Prop :=
  t.pc = target ∧ SameGpr s t ∧ SameHiLo s t ∧ SameFpr s t ∧ SameFlags s t ∧ SameCop0 s t ∧ SameMem s t ∧ SameRun s t ∧
    t.draws = s.draws

/-- From `s` to `t` nothing changes but general register `r`, which becomes `v` (register 0 keeps 0), and pc, which advances. -/
def OnlyGpr (s t : State) (r : Reg) (v : Word) : Prop :=
  t.pc = s.pc + 4 ∧ (∀ k : Reg, t.x k = if k = r ∧ k ≠ 0 then v else s.x k) ∧ SameHiLo s t ∧ SameFpr s t ∧ SameFlags s t ∧
    SameCop0 s t ∧ SameMem s t ∧ SameRun s t ∧ t.draws = s.draws

/-- As `OnlyGpr`, for an instruction that also sets pc. -/
def OnlyGprAndPc (s t : State) (r : Reg) (v : Word) (target : Word) : Prop :=
  t.pc = target ∧ (∀ k : Reg, t.x k = if k = r ∧ k ≠ 0 then v else s.x k) ∧ SameHiLo s t ∧ SameFpr s t ∧ SameFlags s t ∧
    SameCop0 s t ∧ SameMem s t ∧ SameRun s t ∧ t.draws = s.draws

/-- From `s` to `t` nothing but HI and LO (and, in a draw, the model's counter) changes, and pc advances. -/
def OnlyHiLo (s t : State) : Prop :=
  t.pc = s.pc + 4 ∧ SameGpr s t ∧ SameFpr s t ∧ SameFlags s t ∧ SameCop0 s t ∧ SameMem s t ∧ SameRun s t

/-- From `s` to `t` nothing changes but coprocessor 1 register `r`, which becomes `v`, and pc, which advances (and, in a draw,
the model's counter). -/
def OnlyFpr (s t : State) (r : Reg) (v : Word) : Prop :=
  t.pc = s.pc + 4 ∧ (∀ k : Reg, t.f k = if k = r then v else s.f k) ∧ SameGpr s t ∧ SameHiLo s t ∧ SameFlags s t ∧
    SameCop0 s t ∧ SameMem s t ∧ SameRun s t

/-- From `s` to `t` nothing changes but the pair `f[r + 1] ++ f[r]`, which becomes `v`, and pc, which advances (and, in a draw,
the model's counter). -/
def OnlyPair (s t : State) (r : Reg) (v : DWord) : Prop :=
  t.pc = s.pc + 4 ∧
    (∀ k : Reg, t.f k =
      if k = r then v.extractLsb' 0 32 else if k = r + 1 then v.extractLsb' 32 32 else s.f k) ∧
    SameGpr s t ∧ SameHiLo s t ∧ SameFlags s t ∧ SameCop0 s t ∧ SameMem s t ∧ SameRun s t

/-- From `s` to `t` nothing changes but condition flag `k`, which becomes `b`, and pc, which advances. -/
def OnlyFlag (s t : State) (k : CondFlag) (b : Bool) : Prop :=
  t.pc = s.pc + 4 ∧ (∀ j : CondFlag, t.flag j = if j = k then b else s.flag j) ∧ SameGpr s t ∧ SameHiLo s t ∧ SameFpr s t ∧
    SameCop0 s t ∧ SameMem s t ∧ SameRun s t ∧ t.draws = s.draws

/-- The memory of `t` is that of `s` with the `n` bytes `byte 0`, `byte 1`, … at `first`: every other byte is as before. -/
def Stored (s t : State) (first n : Nat) (byte : Nat → Byte) : Prop :=
  ∀ a : Nat, t.mem.read a = if first ≤ a ∧ a < first + n then byte (a - first) else s.mem.read a

/-- From `s` to `t` nothing changes but the `n` bytes of memory from `first`, and pc, which advances. -/
def OnlyMem (s t : State) (first n : Nat) (byte : Nat → Byte) : Prop :=
  t.pc = s.pc + 4 ∧ Stored s t first n byte ∧ SameGpr s t ∧ SameHiLo s t ∧ SameFpr s t ∧ SameFlags s t ∧ SameCop0 s t ∧
    SameRun s t ∧ t.draws = s.draws

/-- Nothing but pc, the run and Coprocessor 0 differs: what taking an exception leaves alone (60_exceptions.md R350). -/
def SameProgram (s t : State) : Prop :=
  SameGpr s t ∧ SameHiLo s t ∧ SameFpr s t ∧ SameFlags s t ∧ SameMem s t ∧ t.launch = s.launch ∧ t.env = s.env ∧
    t.draws = s.draws

/-- What taking an exception with code `code` records (60_exceptions.md R350): EPC the raising instruction, Cause bits 6:2 the
code, Status bit 1 set, BadVAddr `bad`; nothing else of the program's state changes. -/
def EntryOf (s t : State) (code : Nat) (bad : Word) : Prop :=
  t.epc = s.pc ∧
    (∀ k, k < 32 → t.cause.getLsbD k = if 2 ≤ k ∧ k ≤ 6 then code.testBit (k - 2) else s.cause.getLsbD k) ∧
    (∀ k, k < 32 → t.status.getLsbD k = if k = 1 then true else s.status.getLsbD k) ∧
    t.badVAddr = bad ∧ SameProgram s t

/-- The address a branch names: the instruction after the branch and the signed distance in instructions, modulo 2^32
(42_branch_jump.md R181). -/
def State.branchAddress (s : State) (imm : Imm16) : Word := BitVec.ofInt 32 (s.pc.toNat + 4 + 4 * imm.toInt)

/-- `v` is the result `r` of a single-precision operation, or some NaN where the result is a NaN (45_fp_arithmetic.md R263). -/
def SingleResult (r : Option Word) (v : Word) : Prop :=
  match r with
  | some w => v = w
  | none => isNan32 v = true

/-- `v` is the result `r` of a double-precision operation, or some NaN where the result is a NaN (45_fp_arithmetic.md R263). -/
def DoubleResult (r : Option DWord) (v : DWord) : Prop :=
  match r with
  | some w => v = w
  | none => isNan64 v = true

/-- The number that a finite pattern encodes, exactly (45_fp_arithmetic.md R260). -/
def finiteValue (neg : Bool) (m : Nat) (e : Int) : ℚ := (if neg then -1 else 1) * (m : ℚ) * (2 : ℚ) ^ e

end Sys2Proof.Machine
end

