-- ==== Sys2Proof/Certificates/Slice0/Obligations.lean ====
section
/-! DEFINITION. The statements for the provers. Each definition's docstring is its statement; the rules it rests on are in
OBLIGATIONS.json. -/

section Statements

open Sys2Proof Sys2Proof.Machine

/-- For every well-formed instruction, with every operand at every value its fields admit, the decoder reads from the four bytes
of its encoded word exactly that instruction and leaves nothing over. (The one ill-formed term is sll 0 0 0, whose word is
read as nop: log 9.) (R90, R91, R92, R93, R108, R109) -/
def Obligations.DecodeEncode : Prop :=
  ∀ i : Instr, i.wellFormed = true → decode (bytesOfWord (encode i)) = .ok (i, [])

/-- Whenever a word decodes to an instruction, that instruction is well formed and its encoding is that very word: the decoder
drops no bit. That the fields the decoder ignores (R109) are kept, so that they too are encoded back, is the choice of the
model, notes/assumptions/10.md; that the zero word decodes to a well-formed term, nop, is its choice among the two readings of
R92, notes/assumptions/9.md. (R90, R91, R92, R93, R109) -/
def Obligations.EncodeDecode : Prop :=
  ∀ (w : Word) (i : Instr), decodeWord w = .ok i → i.wellFormed = true ∧ encode i = w

/-- Ten words of the assembled example lines, at least one of every family, decode to the instruction each stands for, and the
word of the MIPS32 sync decodes to none. (R91, R93, R104, R105, R106, R107) -/
def Obligations.DecodeSampleWords : Prop :=
  decodeTableWord 32 0x014B4820 = some (.add 9 10 11) ∧
  decodeTableWord 32 0x016A4804 = some (.sllv 9 10 11) ∧
  decodeTableWord 32 0x712A0000 = some (.madd 9 10) ∧
  decodeTableWord 32 0x152A0003 = some (.bne 9 10 3) ∧
  decodeTableWord 32 0x8D49FF9C = some (.lw 9 0xFF9C 10) ∧
  decodeTableWord 32 0xF542FF9C = some (.sdc1 2 0xFF9C 10) ∧
  decodeTableWord 32 0x40894000 = some (.mtc0 9 8) ∧
  decodeTableWord 32 0x46262083 = some (.divD 2 4 6) ∧
  decodeTableWord 32 0x4601013C = some (.cLtS 1 0 1) ∧
  decodeTableWord 32 0x46252091 = some (.movtD 2 4 1) ∧
  decodeTableWord 32 0x0000000F = none

/-- If a word selects two rows of the opcode table, they are one row, unless the word is zero (which is nop and sll zero,zero,0
alike). (R92, R103, R104, R105, R106, R107, R108) -/
def Obligations.RowsSelectOnce : Prop :=
  ∀ (w : Word) (a b : Row), a ∈ opcodeRows → b ∈ opcodeRows → a.selects w = true → b.selects w = true →
    a.mnemonic = b.mnemonic ∨ w = 0

/-- While the run goes on, with pc aligned, not END and in a loaded image, if the four bytes at pc decode to an instruction then
step is exec of that instruction at this state; nothing is added around it (exec itself advances pc). (R26, R62) -/
def Obligations.StepRunsDecodedInstruction : Prop :=
  ∀ (s : State) (i : Instr) (rest : List Byte), s.run = .running → s.pc ≠ s.launch.endPc → s.pc.toNat % 4 = 0 →
    s.launch.isText s.pc.toNat = true → decode s.fetchBytes = .ok (i, rest) → step s = exec i s

/-- While the run goes on and pc is not END: a misaligned pc raises AddressErrorLoad of pc; an aligned pc outside the loaded
images is the fault FetchOutsideProgram; a word in an image that matches no row of the opcode table raises
ReservedInstruction. A step of a run that has ended, or that begins with pc = END, executes nothing: it answers the fault
runOver; that the end of a run is such a fault is the choice of this model, notes/assumptions/1.md and 2.md. (R26, R64, R71,
R108, R347, R386) -/
def Obligations.StepChecksInOrder : Prop :=
  (∀ s : State, s.run = .running → s.pc ≠ s.launch.endPc →
    (s.pc.toNat % 4 ≠ 0 → step s = raise (.addressErrorLoad s.pc) s) ∧
    (s.pc.toNat % 4 = 0 → s.launch.isText s.pc.toNat = false → step s = .fault (.fetchOutsideProgram s.pc)) ∧
    (s.pc.toNat % 4 = 0 → s.launch.isText s.pc.toNat = true →
      (∀ r ∈ opcodeRows, r.selects (s.mem.read32 s.pc.toNat) = false) → step s = raise .reservedInstruction s)) ∧
  (∀ s : State,
    (∀ how, s.run = .ended how → step s = .fault (.runOver how)) ∧
    (s.run = .running → s.pc = s.launch.endPc → step s = .fault (.runOver .droppedOff)))

/-- For every state whose memory is in its canonical form and whose register file entry 0 is 0, if step answers a next state, that
state has both again. No premise but the invariant: it holds from states no run reaches, too. (R22, R26, R47) -/
def Obligations.StepKeepsInvariant : Prop :=
  ∀ s t : State, s.Inv → step s = .next t → t.Inv

/-- The state after reset has its memory in canonical form and register file entry 0 equal to 0. (R22, R52) -/
def Obligations.ResetInvariant : Prop :=
  State.reset.Inv

/-- After reset with no program loaded: pc 0x00400000, $gp 0x10008000, $sp 0x7FFFEFFC, every other general register 0, HI and LO
0, every coprocessor 1 register 0, every condition flag false, Status 0x0000FF11, Cause, EPC and BadVAddr 0, every memory byte
0. R50 makes these values a parameter: that State.reset fixes it at the defaults of R52 is the choice of the model,
notes/assumptions/8.md, and that no program is loaded is the choice of notes/assumptions/3.md. (R51, R52) -/
def Obligations.ResetValues : Prop :=
  State.reset.pc = 0x00400000 ∧
  (∀ k : Reg, State.reset.x k = if k = 28 then 0x10008000 else if k = 29 then 0x7FFFEFFC else 0) ∧
  State.reset.hi = 0 ∧ State.reset.lo = 0 ∧
  (∀ k : Reg, State.reset.f k = 0) ∧ (∀ k : CondFlag, State.reset.flag k = false) ∧
  State.reset.status = 0x0000FF11 ∧ State.reset.cause = 0 ∧ State.reset.epc = 0 ∧ State.reset.badVAddr = 0 ∧
  (∀ a : Nat, State.reset.mem.read a = 0)

/-- Whatever instruction runs and whatever exception is taken, a step leaves MEMMAP, SELF_MOD, the images, END and EXC_HANDLER as
they were, and every byte that the memory map does not make writable reads as before. (R71, R77) -/
def Obligations.StepKeepsReadOnlyBytes : Prop :=
  ∀ s t : State, step s = .next t →
    t.launch = s.launch ∧ ∀ a : Nat, s.launch.writable a = false → t.mem.read a = s.mem.read a

/-- Every instruction but mult, multu, mul, madd, maddu, msub, msubu, div, divu leaves HI and LO as they were, mthi changing HI
alone and mtlo LO alone; taking an exception leaves both. (R29) -/
def Obligations.HiLoWriters : Prop :=
  ∀ (i : Instr) (s t : State), exec i s = .next t →
    match i with
    | .mult _ _ | .multu _ _ | .mul _ _ _ | .madd _ _ | .maddu _ _ | .msub _ _ | .msubu _ _ | .div _ _ | .divu _ _ => True
    | .mthi _ => t.lo = s.lo
    | .mtlo _ => t.hi = s.hi
    | _ => SameHiLo s t

/-- Every instruction but c.eq, c.le, c.lt (single and double) leaves all eight flags as they were, and these leave every flag but
the one they name. (R31) -/
def Obligations.FlagWriters : Prop :=
  ∀ (i : Instr) (s t : State), exec i s = .next t →
    match i with
    | .cEqS cc _ _ | .cEqD cc _ _ | .cLeS cc _ _ | .cLeD cc _ _ | .cLtS cc _ _ | .cLtD cc _ _ =>
      ∀ j : CondFlag, j ≠ cc → t.flag j = s.flag j
    | _ => SameFlags s t

/-- When an instruction answers a next state, either no Coprocessor 0 register has changed, or the instruction is mtc0 or eret, or
an exception was taken: EXL was 0, is 1 now, EPC is the address of the instruction, and no general, coprocessor 1, HI, LO or
flag register and no byte of memory has changed. (R40, R343) -/
def Obligations.Cop0Writers : Prop :=
  ∀ (i : Instr) (s t : State), exec i s = .next t →
    SameCop0 s t ∨ (∃ rt rd, i = .mtc0 rt rd) ∨ i = .eret ∨
      (s.exl = false ∧ t.exl = true ∧ t.epc = s.pc ∧ SameProgram s t)

/-- addu, subu, and, or, xor, nor, slt and sltu complete from every state with every operand: rd receives the sum or difference
modulo 2^32, the bitwise result, or 1 or 0 for the signed or unsigned comparison (register 0 keeps 0), pc advances by 4, and
nothing else changes. (R22, R121, R122, R128, R129, R137, R138, R142, R145, R151, R152) -/
def Obligations.AluRegister : Prop :=
  ∀ (s : State) (rd rs rt : Reg),
    (∃ t, exec (.addu rd rs rt) s = .next t ∧ OnlyGpr s t rd (BitVec.ofNat 32 ((s.x rs).toNat + (s.x rt).toNat))) ∧
    (∃ t, exec (.subu rd rs rt) s = .next t ∧ OnlyGpr s t rd (BitVec.ofInt 32 ((s.x rs).toInt - (s.x rt).toInt))) ∧
    (∃ t, exec (.and rd rs rt) s = .next t ∧ OnlyGpr s t rd (s.x rs &&& s.x rt)) ∧
    (∃ t, exec (.or rd rs rt) s = .next t ∧ OnlyGpr s t rd (s.x rs ||| s.x rt)) ∧
    (∃ t, exec (.xor rd rs rt) s = .next t ∧ OnlyGpr s t rd (s.x rs ^^^ s.x rt)) ∧
    (∃ t, exec (.nor rd rs rt) s = .next t ∧ OnlyGpr s t rd (~~~(s.x rs ||| s.x rt))) ∧
    (∃ t, exec (.slt rd rs rt) s = .next t ∧ OnlyGpr s t rd (if (s.x rs).toInt < (s.x rt).toInt then 1 else 0)) ∧
    (∃ t, exec (.sltu rd rs rt) s = .next t ∧ OnlyGpr s t rd (if (s.x rs).toNat < (s.x rt).toNat then 1 else 0))

/-- addiu, slti and sltiu complete from every state: rt receives the sum modulo 2^32 of rs and the signed immediate, or 1 or 0 for
the comparison with the sign-extended immediate, read signed by slti and unsigned by sltiu; nothing else but pc changes. (R94,
R121, R122, R127, R143, R144) -/
def Obligations.AluImmediate : Prop :=
  ∀ (s : State) (rt rs : Reg) (imm : Imm16),
    (∃ t, exec (.addiu rt rs imm) s = .next t ∧ OnlyGpr s t rt (BitVec.ofInt 32 ((s.x rs).toInt + imm.toInt))) ∧
    (∃ t, exec (.slti rt rs imm) s = .next t ∧ OnlyGpr s t rt (if (s.x rs).toInt < imm.toInt then 1 else 0)) ∧
    (∃ t, exec (.sltiu rt rs imm) s = .next t ∧ OnlyGpr s t rt (if (s.x rs).toNat < (BitVec.ofInt 32 imm.toInt).toNat then 1 else 0))

/-- andi, ori and xori complete from every state: bit k of the result is the AND, OR or XOR of bit k of rs with bit k of the
immediate, which is 0 for k from 16 to 31; nothing else but pc changes. (R95) -/
def Obligations.LogicalImmediate : Prop :=
  ∀ (s : State) (rt rs : Reg) (imm : Imm16),
    (∃ t v, exec (.andi rt rs imm) s = .next t ∧ OnlyGpr s t rt v ∧
      ∀ k, k < 32 → v.getLsbD k = ((s.x rs).getLsbD k && if k < 16 then imm.getLsbD k else false)) ∧
    (∃ t v, exec (.ori rt rs imm) s = .next t ∧ OnlyGpr s t rt v ∧
      ∀ k, k < 32 → v.getLsbD k = ((s.x rs).getLsbD k || if k < 16 then imm.getLsbD k else false)) ∧
    (∃ t v, exec (.xori rt rs imm) s = .next t ∧ OnlyGpr s t rt v ∧
      ∀ k, k < 32 → v.getLsbD k = ((s.x rs).getLsbD k ^^ if k < 16 then imm.getLsbD k else false))

/-- lui completes from every state: rt receives the immediate in bits 31:16 and zeros in bits 15:0 (register 0 keeps 0); nothing
else but pc changes. (R96) -/
def Obligations.LoadUpper : Prop :=
  ∀ (s : State) (rt : Reg) (imm : Imm16), ∃ t, exec (.lui rt imm) s = .next t ∧ OnlyGpr s t rt (imm ++ 0#16)

/-- sll, srl, sra and their variable forms complete from every state: rd receives v * 2^n modulo 2^32, floor(u32(v) / 2^n) or
floor(s32(v) / 2^n), where n is the sa field, or the low-order 5 bits of rs with the other 27 ignored; nothing else but pc
changes. (R97) -/
def Obligations.Shifts : Prop :=
  ∀ (s : State) (rd rt rs sa : Reg),
    (∃ t, exec (.sll rd rt sa) s = .next t ∧ OnlyGpr s t rd (BitVec.ofNat 32 ((s.x rt).toNat * 2 ^ sa.toNat))) ∧
    (∃ t, exec (.srl rd rt sa) s = .next t ∧ OnlyGpr s t rd (BitVec.ofNat 32 ((s.x rt).toNat / 2 ^ sa.toNat))) ∧
    (∃ t, exec (.sra rd rt sa) s = .next t ∧ OnlyGpr s t rd (BitVec.ofInt 32 ((s.x rt).toInt / 2 ^ sa.toNat))) ∧
    (∃ t, exec (.sllv rd rt rs) s = .next t ∧ OnlyGpr s t rd (BitVec.ofNat 32 ((s.x rt).toNat * 2 ^ ((s.x rs).toNat % 32)))) ∧
    (∃ t, exec (.srlv rd rt rs) s = .next t ∧ OnlyGpr s t rd (BitVec.ofNat 32 ((s.x rt).toNat / 2 ^ ((s.x rs).toNat % 32)))) ∧
    (∃ t, exec (.srav rd rt rs) s = .next t ∧ OnlyGpr s t rd (BitVec.ofInt 32 ((s.x rt).toInt / 2 ^ ((s.x rs).toNat % 32))))

/-- clo and clz complete from every state: rd receives a number n from 0 to 32 such that the n highest bits of rs are all 1 (clo)
or 0 (clz) and the next one, if there is one, is not; nothing else but pc changes and the rt field is not read. (R109, R121,
R131, R132) -/
def Obligations.CountLeading : Prop :=
  ∀ (s : State) (rd rs rt : Reg),
    (∃ t n, exec (.clo rd rs rt) s = .next t ∧ OnlyGpr s t rd (BitVec.ofNat 32 n) ∧ n ≤ 32 ∧
      (∀ k, k < n → (s.x rs).getLsbD (31 - k) = true) ∧ (n < 32 → (s.x rs).getLsbD (31 - n) = false)) ∧
    (∃ t n, exec (.clz rd rs rt) s = .next t ∧ OnlyGpr s t rd (BitVec.ofNat 32 n) ∧ n ≤ 32 ∧
      (∀ k, k < n → (s.x rs).getLsbD (31 - k) = false) ∧ (n < 32 → (s.x rs).getLsbD (31 - n) = true))

/-- Each completes from every state: when its condition holds (rt not zero; rt zero; the named flag false; the named flag true) rd
receives rs, otherwise nothing but pc changes. (R134, R135, R293, R313, R318) -/
def Obligations.ConditionalMoves : Prop :=
  ∀ (s : State) (rd rs rt : Reg) (cc : CondFlag),
    (∃ t, exec (.movn rd rs rt) s = .next t ∧ if s.x rt ≠ 0 then OnlyGpr s t rd (s.x rs) else OnlyPc s t (s.pc + 4)) ∧
    (∃ t, exec (.movz rd rs rt) s = .next t ∧ if s.x rt = 0 then OnlyGpr s t rd (s.x rs) else OnlyPc s t (s.pc + 4)) ∧
    (∃ t, exec (.movf rd rs cc) s = .next t ∧ if s.flag cc = false then OnlyGpr s t rd (s.x rs) else OnlyPc s t (s.pc + 4)) ∧
    (∃ t, exec (.movt rd rs cc) s = .next t ∧ if s.flag cc = true then OnlyGpr s t rd (s.x rs) else OnlyPc s t (s.pc + 4))

/-- nop completes from every state, advancing pc by 4 modulo 2^32 and changing nothing else; so does sll with destination register
0, whatever its source and amount (for the other shifts see Shifts). (R27, R92, R110, R136) -/
def Obligations.NopAdvances : Prop :=
  ∀ (s : State) (rt sa : Reg),
    (∃ t, exec .nop s = .next t ∧ OnlyPc s t (s.pc + 4)) ∧ (∃ t, exec (.sll 0 rt sa) s = .next t ∧ OnlyPc s t (s.pc + 4))

/-- When the exact signed sum or difference lies in -2^31 .. 2^31-1 the instruction completes with it in the destination and
changes nothing else but pc; when it lies outside, ArithmeticOverflow is raised (whatever the destination, register 0
included). (R120, R121, R125, R126, R150) -/
def Obligations.OverflowArithmetic : Prop :=
  ∀ (s : State) (rd rs rt : Reg) (imm : Imm16),
    ((-2 ^ 31 ≤ (s.x rs).toInt + (s.x rt).toInt ∧ (s.x rs).toInt + (s.x rt).toInt ≤ 2 ^ 31 - 1 →
        ∃ t, exec (.add rd rs rt) s = .next t ∧ OnlyGpr s t rd (BitVec.ofInt 32 ((s.x rs).toInt + (s.x rt).toInt))) ∧
      ((s.x rs).toInt + (s.x rt).toInt < -2 ^ 31 ∨ 2 ^ 31 - 1 < (s.x rs).toInt + (s.x rt).toInt → exec (.add rd rs rt) s = raise .arithmeticOverflow s)) ∧
    ((-2 ^ 31 ≤ (s.x rs).toInt + imm.toInt ∧ (s.x rs).toInt + imm.toInt ≤ 2 ^ 31 - 1 →
        ∃ t, exec (.addi rt rs imm) s = .next t ∧ OnlyGpr s t rt (BitVec.ofInt 32 ((s.x rs).toInt + imm.toInt))) ∧
      ((s.x rs).toInt + imm.toInt < -2 ^ 31 ∨ 2 ^ 31 - 1 < (s.x rs).toInt + imm.toInt → exec (.addi rt rs imm) s = raise .arithmeticOverflow s)) ∧
    ((-2 ^ 31 ≤ (s.x rs).toInt - (s.x rt).toInt ∧ (s.x rs).toInt - (s.x rt).toInt ≤ 2 ^ 31 - 1 →
        ∃ t, exec (.sub rd rs rt) s = .next t ∧ OnlyGpr s t rd (BitVec.ofInt 32 ((s.x rs).toInt - (s.x rt).toInt))) ∧
      ((s.x rs).toInt - (s.x rt).toInt < -2 ^ 31 ∨ 2 ^ 31 - 1 < (s.x rs).toInt - (s.x rt).toInt → exec (.sub rd rs rt) s = raise .arithmeticOverflow s))

/-- mult, multu and mul complete from every state: HI ++ LO is the exact signed (mult, mul) or unsigned (multu) product, mul also
writes LO to rd (register 0 keeps 0), and nothing else but pc changes. That the product of mul is signed is R173. (R160, R173,
R174, R175) -/
def Obligations.Multiply : Prop :=
  ∀ (s : State) (rd rs rt : Reg),
    (∃ t, exec (.mult rs rt) s = .next t ∧ OnlyHiLo s t ∧ t.draws = s.draws ∧
      (t.hi ++ t.lo).toInt = (s.x rs).toInt * (s.x rt).toInt) ∧
    (∃ t, exec (.multu rs rt) s = .next t ∧ OnlyHiLo s t ∧ t.draws = s.draws ∧
      (t.hi ++ t.lo).toNat = (s.x rs).toNat * (s.x rt).toNat) ∧
    (∃ t, exec (.mul rd rs rt) s = .next t ∧ (t.hi ++ t.lo).toInt = (s.x rs).toInt * (s.x rt).toInt ∧
      (∀ k : Reg, t.x k = if k = rd ∧ k ≠ 0 then t.lo else s.x k) ∧ t.pc = s.pc + 4 ∧ SameFpr s t ∧ SameFlags s t ∧
      SameCop0 s t ∧ SameMem s t ∧ SameRun s t ∧ t.draws = s.draws)

/-- Each completes from every state: HI ++ LO becomes the old HI ++ LO plus or minus the exact signed or unsigned product, modulo
2^64, so that a carry or borrow passes between LO and HI; nothing else but pc changes. (R162, R165, R166, R169, R170) -/
def Obligations.MultiplyAccumulate : Prop :=
  ∀ (s : State) (rs rt : Reg),
    (∃ t, exec (.madd rs rt) s = .next t ∧ OnlyHiLo s t ∧ t.draws = s.draws ∧
      ((t.hi ++ t.lo).toNat : Int) = (((s.hi ++ s.lo).toNat : Int) + (s.x rs).toInt * (s.x rt).toInt) % 2 ^ 64) ∧
    (∃ t, exec (.maddu rs rt) s = .next t ∧ OnlyHiLo s t ∧ t.draws = s.draws ∧
      ((t.hi ++ t.lo).toNat : Int) = (((s.hi ++ s.lo).toNat : Int) + ((s.x rs).toNat : Int) * (s.x rt).toNat) % 2 ^ 64) ∧
    (∃ t, exec (.msub rs rt) s = .next t ∧ OnlyHiLo s t ∧ t.draws = s.draws ∧
      ((t.hi ++ t.lo).toNat : Int) = (((s.hi ++ s.lo).toNat : Int) - (s.x rs).toInt * (s.x rt).toInt) % 2 ^ 64) ∧
    (∃ t, exec (.msubu rs rt) s = .next t ∧ OnlyHiLo s t ∧ t.draws = s.draws ∧
      ((t.hi ++ t.lo).toNat : Int) = (((s.hi ++ s.lo).toNat : Int) - ((s.x rs).toNat : Int) * (s.x rt).toNat) % 2 ^ 64)

/-- With a divisor that is not 0, div completes: LO and HI are the quotient and remainder with dividend = quotient * divisor +
remainder, |remainder| < |divisor| and a non-zero remainder with the sign of the dividend; for -2^31 / -1, LO = 0x80000000 and
HI = 0. divu completes with LO = floor(a / b) and HI = a - floor(a / b) * b of the unsigned operands. Nothing else but pc
changes. (R160, R163, R164) -/
def Obligations.Divide : Prop :=
  (∀ (s : State) (rs rt : Reg), s.x rt ≠ 0 →
    ∃ t, exec (.div rs rt) s = .next t ∧ OnlyHiLo s t ∧ t.draws = s.draws ∧
      if s.x rs = 0x80000000 ∧ s.x rt = 0xFFFFFFFF then t.lo = 0x80000000 ∧ t.hi = 0
      else
        t.lo.toInt * (s.x rt).toInt + t.hi.toInt = (s.x rs).toInt ∧ |t.hi.toInt| < |(s.x rt).toInt| ∧
          (t.hi = 0 ∨ (t.hi.toInt < 0 ↔ (s.x rs).toInt < 0))) ∧
  (∀ (s : State) (rs rt : Reg), s.x rt ≠ 0 →
    ∃ t, exec (.divu rs rt) s = .next t ∧ OnlyHiLo s t ∧ t.draws = s.draws ∧
      t.lo.toNat = (s.x rs).toNat / (s.x rt).toNat ∧ t.hi.toNat = (s.x rs).toNat % (s.x rt).toNat)

/-- With the divisor 0, div and divu complete; nothing is said of HI and LO, which the spec leaves any value, and nothing else but
pc changes (the model counts its draws, log 5). (R161) -/
def Obligations.DivideByZero : Prop :=
  ∀ (s : State) (rs rt : Reg), s.x rt = 0 →
    (∃ t, exec (.div rs rt) s = .next t ∧ OnlyHiLo s t) ∧ (∃ t, exec (.divu rs rt) s = .next t ∧ OnlyHiLo s t)

/-- Each completes from every state: mfhi and mflo write HI or LO to rd and change nothing else but pc; mthi and mtlo write rs to
HI or LO, the other one staying, and change nothing else but pc. (R167, R168, R171, R172) -/
def Obligations.HiLoMoves : Prop :=
  ∀ (s : State) (rd rs : Reg),
    (∃ t, exec (.mfhi rd) s = .next t ∧ OnlyGpr s t rd (s.hi)) ∧
    (∃ t, exec (.mflo rd) s = .next t ∧ OnlyGpr s t rd (s.lo)) ∧
    (∃ t, exec (.mthi rs) s = .next t ∧ OnlyHiLo s t ∧ t.hi = s.x rs ∧ t.lo = s.lo ∧ t.draws = s.draws) ∧
    (∃ t, exec (.mtlo rs) s = .next t ∧ OnlyHiLo s t ∧ t.lo = s.x rs ∧ t.hi = s.hi ∧ t.draws = s.draws)

/-- beq, bne, bgez, bgtz, blez, bltz, bc1f and bc1t complete from every state: pc becomes pc + 4 + 4 * signed distance modulo 2^32
when the condition holds and pc + 4 when not, with no delay slot; nothing else changes. (R180, R181, R185, R186, R187, R188,
R190, R191, R192, R194) -/
def Obligations.ConditionalBranches : Prop :=
  ∀ (s : State) (rs rt : Reg) (cc : CondFlag) (imm : Imm16),
    (∃ t, exec (.beq rs rt imm) s = .next t ∧ OnlyPc s t (if s.x rs = s.x rt then s.branchAddress imm else s.pc + 4)) ∧
    (∃ t, exec (.bne rs rt imm) s = .next t ∧ OnlyPc s t (if s.x rs ≠ s.x rt then s.branchAddress imm else s.pc + 4)) ∧
    (∃ t, exec (.bgez rs imm) s = .next t ∧ OnlyPc s t (if 0 ≤ (s.x rs).toInt then s.branchAddress imm else s.pc + 4)) ∧
    (∃ t, exec (.bgtz rs imm) s = .next t ∧ OnlyPc s t (if 0 < (s.x rs).toInt then s.branchAddress imm else s.pc + 4)) ∧
    (∃ t, exec (.blez rs imm) s = .next t ∧ OnlyPc s t (if (s.x rs).toInt ≤ 0 then s.branchAddress imm else s.pc + 4)) ∧
    (∃ t, exec (.bltz rs imm) s = .next t ∧ OnlyPc s t (if (s.x rs).toInt < 0 then s.branchAddress imm else s.pc + 4)) ∧
    (∃ t, exec (.bc1f cc imm) s = .next t ∧ OnlyPc s t (if s.flag cc = false then s.branchAddress imm else s.pc + 4)) ∧
    (∃ t, exec (.bc1t cc imm) s = .next t ∧ OnlyPc s t (if s.flag cc = true then s.branchAddress imm else s.pc + 4))

/-- bgezal and bltzal complete from every state: when the old value of rs is not negative (bgezal) or negative (bltzal), register
31 receives pc + 4 and pc the target; otherwise only pc advances. rs = 31 is included. (R182, R184, R189, R193) -/
def Obligations.LinkingBranches : Prop :=
  ∀ (s : State) (rs : Reg) (imm : Imm16),
    (∃ t, exec (.bgezal rs imm) s = .next t ∧
      if 0 ≤ (s.x rs).toInt then OnlyGprAndPc s t 31 (s.pc + 4) (s.branchAddress imm) else OnlyPc s t (s.pc + 4)) ∧
    (∃ t, exec (.bltzal rs imm) s = .next t ∧
      if (s.x rs).toInt < 0 then OnlyGprAndPc s t 31 (s.pc + 4) (s.branchAddress imm) else OnlyPc s t (s.pc + 4))

/-- j and jal go to the top four bits of pc + 4 followed by the index times 4; jr and jalr to the old value of rs, whatever it is;
jal writes pc + 4 to register 31 and jalr to rd (discarded for register 0), jalr with rd not rs or rd = 0. Each completes and
changes nothing else. jalr with rd = rs and not register 0 answers the fault jalrSameRegister from every state. (R99, R181,
R182, R195, R196, R197, R198, R341) -/
def Obligations.Jumps : Prop :=
  (∀ (s : State) (rd rs hint : Reg) (index : BitVec 26),
    (∃ t, exec (.j index) s = .next t ∧ OnlyPc s t (BitVec.ofNat 32 ((s.pc + 4).toNat / 2 ^ 28 * 2 ^ 28 + index.toNat * 4))) ∧
    (∃ t, exec (.jal index) s = .next t ∧
      OnlyGprAndPc s t 31 (s.pc + 4) (BitVec.ofNat 32 ((s.pc + 4).toNat / 2 ^ 28 * 2 ^ 28 + index.toNat * 4))) ∧
    (∃ t, exec (.jr rs hint) s = .next t ∧ OnlyPc s t (s.x rs)) ∧
    (rd ≠ rs ∨ rd = 0 → ∃ t, exec (.jalr rd rs hint) s = .next t ∧ OnlyGprAndPc s t rd (s.pc + 4) (s.x rs))) ∧
  (∀ (s : State) (r hint : Reg), r ≠ 0 → exec (.jalr r r hint) s = .fault .jalrSameRegister)

/-- The effective address is the base register plus the signed offset, modulo 2^32. With it a multiple of the width and every byte
readable, each completes: byte k of the loaded value is the byte of memory at the address plus k, it goes to rt (ll exactly as
lw), to f[ft] or to the pair of an even ft, and nothing else but pc changes. (R61, R65, R100, R200, R203, R204, R207, R210,
R211, R212) -/
def Obligations.WordLoads : Prop :=
  (∀ (s : State) (imm : Imm16) (rs : Reg), ((s.ea imm rs).toNat : Int) = ((s.x rs).toNat + imm.toInt) % 2 ^ 32) ∧
  (∀ (s : State) (rt ft rs : Reg) (imm : Imm16),
    ((s.ea imm rs).toNat % 4 = 0 → (∀ k, k < 4 → s.launch.readable ((s.ea imm rs).toNat + k) = true) →
      ∃ t v, exec (.lw rt imm rs) s = .next t ∧ OnlyGpr s t rt v ∧
        ∀ k, k < 4 → byteOf v k = s.mem.read ((s.ea imm rs).toNat + k)) ∧
    ((s.ea imm rs).toNat % 4 = 0 → (∀ k, k < 4 → s.launch.readable ((s.ea imm rs).toNat + k) = true) →
      ∃ t v, exec (.ll rt imm rs) s = .next t ∧ OnlyGpr s t rt v ∧
        ∀ k, k < 4 → byteOf v k = s.mem.read ((s.ea imm rs).toNat + k)) ∧
    ((s.ea imm rs).toNat % 4 = 0 → (∀ k, k < 4 → s.launch.readable ((s.ea imm rs).toNat + k) = true) →
      ∃ t v, exec (.lwc1 ft imm rs) s = .next t ∧ OnlyFpr s t ft v ∧ t.draws = s.draws ∧
        ∀ k, k < 4 → byteOf v k = s.mem.read ((s.ea imm rs).toNat + k)) ∧
    (ft.toNat % 2 = 0 → (s.ea imm rs).toNat % 8 = 0 → (∀ k, k < 8 → s.launch.readable ((s.ea imm rs).toNat + k) = true) →
      ∃ t v, exec (.ldc1 ft imm rs) s = .next t ∧ OnlyPair s t ft v ∧ t.draws = s.draws ∧
        ∀ k, k < 8 → v.extractLsb' (8 * k) 8 = s.mem.read ((s.ea imm rs).toNat + k)))

/-- With the address aligned (halfwords) and the bytes readable, each completes: rt receives the byte or little-endian halfword,
sign-extended by lb and lh and zero-extended by lbu and lhu; nothing else but pc changes. (R61, R65, R204, R205, R206, R208,
R209) -/
def Obligations.NarrowLoads : Prop :=
  ∀ (s : State) (rt rs : Reg) (imm : Imm16),
    (s.launch.readable (s.ea imm rs).toNat = true →
      (∃ t, exec (.lb rt imm rs) s = .next t ∧
        OnlyGpr s t rt (BitVec.ofInt 32 (s.mem.read (s.ea imm rs).toNat).toInt)) ∧
      (∃ t, exec (.lbu rt imm rs) s = .next t ∧
        OnlyGpr s t rt (BitVec.ofNat 32 (s.mem.read (s.ea imm rs).toNat).toNat))) ∧
    ((s.ea imm rs).toNat % 2 = 0 → (∀ k, k < 2 → s.launch.readable ((s.ea imm rs).toNat + k) = true) →
      (∃ t, exec (.lh rt imm rs) s = .next t ∧
        OnlyGpr s t rt (BitVec.ofInt 32 (s.mem.read ((s.ea imm rs).toNat + 1) ++ s.mem.read (s.ea imm rs).toNat).toInt)) ∧
      (∃ t, exec (.lhu rt imm rs) s = .next t ∧
        OnlyGpr s t rt (BitVec.ofNat 32
          ((s.mem.read (s.ea imm rs).toNat).toNat + 256 * (s.mem.read ((s.ea imm rs).toNat + 1)).toNat))))

/-- With b the low two bits of the address and the touched bytes readable, lwl completes with the bytes from the aligned word's
start to the address in the high-order b + 1 bytes of rt, lwr with the bytes from the address to the word's end in the low-
order 4 - b bytes; the other bytes of rt keep their value and nothing else but pc changes. (R202, R213, R214) -/
def Obligations.PartialLoads : Prop :=
  ∀ (s : State) (rt rs : Reg) (imm : Imm16),
    ((∀ k, k < (s.ea imm rs).toNat % 4 + 1 → s.launch.readable (wordBase (s.ea imm rs) + k) = true) →
      ∃ t v, exec (.lwl rt imm rs) s = .next t ∧ OnlyGpr s t rt v ∧
        ∀ k, k < 4 → byteOf v k =
          if 3 ≤ k + (s.ea imm rs).toNat % 4 then s.mem.read (wordBase (s.ea imm rs) + (k + (s.ea imm rs).toNat % 4 - 3))
          else byteOf (s.x rt) k) ∧
    ((∀ k, k < 4 - (s.ea imm rs).toNat % 4 → s.launch.readable ((s.ea imm rs).toNat + k) = true) →
      ∃ t v, exec (.lwr rt imm rs) s = .next t ∧ OnlyGpr s t rt v ∧
        ∀ k, k < 4 → byteOf v k =
          if k < 4 - (s.ea imm rs).toNat % 4 then s.mem.read ((s.ea imm rs).toNat + k) else byteOf (s.x rt) k)

/-- With the address a multiple of the width and every byte writable, each completes: the byte at the effective address plus k
becomes byte k of the register (for sdc1 of the pair, the even register first); every other byte of memory reads as before and
nothing else but pc changes. sc stores the old rt whatever came before, and then rt becomes 1 (register 0 keeps 0). Premise:
memory in its canonical form (StepKeepsInvariant). (R61, R65, R76, R203, R204, R215, R216, R217, R218, R219, R220) -/
def Obligations.Stores : Prop :=
  (∀ (s : State) (rt ft rs : Reg) (imm : Imm16), s.mem.wf →
    ((∀ k, k < 1 → s.launch.writable ((s.ea imm rs).toNat + k) = true) →
      ∃ t, exec (.sb rt imm rs) s = .next t ∧ OnlyMem s t (s.ea imm rs).toNat 1 (fun k => byteOf (s.x rt) k)) ∧
    ((s.ea imm rs).toNat % 2 = 0 → (∀ k, k < 2 → s.launch.writable ((s.ea imm rs).toNat + k) = true) →
      ∃ t, exec (.sh rt imm rs) s = .next t ∧ OnlyMem s t (s.ea imm rs).toNat 2 (fun k => byteOf (s.x rt) k)) ∧
    ((s.ea imm rs).toNat % 4 = 0 → (∀ k, k < 4 → s.launch.writable ((s.ea imm rs).toNat + k) = true) →
      ∃ t, exec (.sw rt imm rs) s = .next t ∧ OnlyMem s t (s.ea imm rs).toNat 4 (fun k => byteOf (s.x rt) k)) ∧
    ((s.ea imm rs).toNat % 4 = 0 → (∀ k, k < 4 → s.launch.writable ((s.ea imm rs).toNat + k) = true) →
      ∃ t, exec (.swc1 ft imm rs) s = .next t ∧ OnlyMem s t (s.ea imm rs).toNat 4 (fun k => byteOf (s.f ft) k)) ∧
    (ft.toNat % 2 = 0 → (s.ea imm rs).toNat % 8 = 0 → (∀ k, k < 8 → s.launch.writable ((s.ea imm rs).toNat + k) = true) →
      ∃ t, exec (.sdc1 ft imm rs) s = .next t ∧ OnlyMem s t (s.ea imm rs).toNat 8 (fun k => if k < 4 then byteOf (s.f ft) k else byteOf (s.f (ft + 1)) (k - 4)))) ∧
  (∀ (s : State) (rt rs : Reg) (imm : Imm16), s.mem.wf → (s.ea imm rs).toNat % 4 = 0 →
    (∀ k, k < 4 → s.launch.writable ((s.ea imm rs).toNat + k) = true) →
      ∃ t, exec (.sc rt imm rs) s = .next t ∧ Stored s t (s.ea imm rs).toNat 4 (fun k => byteOf (s.x rt) k) ∧
        (∀ k : Reg, t.x k = if k = rt ∧ k ≠ 0 then 1 else s.x k) ∧ t.pc = s.pc + 4 ∧ SameHiLo s t ∧ SameFpr s t ∧
        SameFlags s t ∧ SameCop0 s t ∧ SameRun s t ∧ t.draws = s.draws)

/-- With b the low two bits of the address and the touched bytes writable, swl completes by storing the high-order b + 1 bytes of
rt from the aligned word's start to the address, swr the low-order 4 - b bytes from the address to the word's end; every other
byte of memory reads as before and nothing else but pc changes. Premise: memory in its canonical form. (R202, R221, R222) -/
def Obligations.PartialStores : Prop :=
  ∀ (s : State) (rt rs : Reg) (imm : Imm16), s.mem.wf →
    ((∀ k, k < (s.ea imm rs).toNat % 4 + 1 → s.launch.writable (wordBase (s.ea imm rs) + k) = true) →
      ∃ t, exec (.swl rt imm rs) s = .next t ∧
        OnlyMem s t (wordBase (s.ea imm rs)) ((s.ea imm rs).toNat % 4 + 1)
          (fun k => byteOf (s.x rt) (3 - (s.ea imm rs).toNat % 4 + k))) ∧
    ((∀ k, k < 4 - (s.ea imm rs).toNat % 4 → s.launch.writable ((s.ea imm rs).toNat + k) = true) →
      ∃ t, exec (.swr rt imm rs) s = .next t ∧
        OnlyMem s t (s.ea imm rs).toNat (4 - (s.ea imm rs).toNat % 4) (fun k => byteOf (s.x rt) k))

/-- Each of the ten loads, at an address that is not a multiple of its width (lb, lbu, lwl, lwr need none) or with a byte it
touches not readable, raises AddressErrorLoad with the effective address and does nothing else; ldc1 with an even register.
(R63, R71, R201) -/
def Obligations.LoadsRaise : Prop :=
  ∀ (s : State) (rt ft rs : Reg) (imm : Imm16),
    ((∃ k, k < 1 ∧ s.launch.readable ((s.ea imm rs).toNat + k) = false) →
      exec (.lb rt imm rs) s = raise (.addressErrorLoad (s.ea imm rs)) s) ∧
    ((∃ k, k < 1 ∧ s.launch.readable ((s.ea imm rs).toNat + k) = false) →
      exec (.lbu rt imm rs) s = raise (.addressErrorLoad (s.ea imm rs)) s) ∧
    (((s.ea imm rs).toNat % 2 ≠ 0 ∨ ∃ k, k < 2 ∧ s.launch.readable ((s.ea imm rs).toNat + k) = false) →
      exec (.lh rt imm rs) s = raise (.addressErrorLoad (s.ea imm rs)) s) ∧
    (((s.ea imm rs).toNat % 2 ≠ 0 ∨ ∃ k, k < 2 ∧ s.launch.readable ((s.ea imm rs).toNat + k) = false) →
      exec (.lhu rt imm rs) s = raise (.addressErrorLoad (s.ea imm rs)) s) ∧
    (((s.ea imm rs).toNat % 4 ≠ 0 ∨ ∃ k, k < 4 ∧ s.launch.readable ((s.ea imm rs).toNat + k) = false) →
      exec (.lw rt imm rs) s = raise (.addressErrorLoad (s.ea imm rs)) s) ∧
    (((s.ea imm rs).toNat % 4 ≠ 0 ∨ ∃ k, k < 4 ∧ s.launch.readable ((s.ea imm rs).toNat + k) = false) →
      exec (.ll rt imm rs) s = raise (.addressErrorLoad (s.ea imm rs)) s) ∧
    (((s.ea imm rs).toNat % 4 ≠ 0 ∨ ∃ k, k < 4 ∧ s.launch.readable ((s.ea imm rs).toNat + k) = false) →
      exec (.lwc1 ft imm rs) s = raise (.addressErrorLoad (s.ea imm rs)) s) ∧
    (ft.toNat % 2 = 0 → ((s.ea imm rs).toNat % 8 ≠ 0 ∨ ∃ k, k < 8 ∧ s.launch.readable ((s.ea imm rs).toNat + k) = false) →
      exec (.ldc1 ft imm rs) s = raise (.addressErrorLoad (s.ea imm rs)) s) ∧
    ((∃ k, k < (s.ea imm rs).toNat % 4 + 1 ∧ s.launch.readable (wordBase (s.ea imm rs) + k) = false) →
      exec (.lwl rt imm rs) s = raise (.addressErrorLoad (s.ea imm rs)) s) ∧
    ((∃ k, k < 4 - (s.ea imm rs).toNat % 4 ∧ s.launch.readable ((s.ea imm rs).toNat + k) = false) →
      exec (.lwr rt imm rs) s = raise (.addressErrorLoad (s.ea imm rs)) s)

/-- Each of the eight stores, at an address that is not a multiple of its width (sb, swl, swr need none) or with a byte it touches
not writable, raises AddressErrorStore with the effective address and does nothing else; sdc1 with an even register. (R63,
R71, R77, R201) -/
def Obligations.StoresRaise : Prop :=
  ∀ (s : State) (rt ft rs : Reg) (imm : Imm16),
    ((∃ k, k < 1 ∧ s.launch.writable ((s.ea imm rs).toNat + k) = false) →
      exec (.sb rt imm rs) s = raise (.addressErrorStore (s.ea imm rs)) s) ∧
    (((s.ea imm rs).toNat % 2 ≠ 0 ∨ ∃ k, k < 2 ∧ s.launch.writable ((s.ea imm rs).toNat + k) = false) →
      exec (.sh rt imm rs) s = raise (.addressErrorStore (s.ea imm rs)) s) ∧
    (((s.ea imm rs).toNat % 4 ≠ 0 ∨ ∃ k, k < 4 ∧ s.launch.writable ((s.ea imm rs).toNat + k) = false) →
      exec (.sw rt imm rs) s = raise (.addressErrorStore (s.ea imm rs)) s) ∧
    (((s.ea imm rs).toNat % 4 ≠ 0 ∨ ∃ k, k < 4 ∧ s.launch.writable ((s.ea imm rs).toNat + k) = false) →
      exec (.sc rt imm rs) s = raise (.addressErrorStore (s.ea imm rs)) s) ∧
    (((s.ea imm rs).toNat % 4 ≠ 0 ∨ ∃ k, k < 4 ∧ s.launch.writable ((s.ea imm rs).toNat + k) = false) →
      exec (.swc1 ft imm rs) s = raise (.addressErrorStore (s.ea imm rs)) s) ∧
    (ft.toNat % 2 = 0 → ((s.ea imm rs).toNat % 8 ≠ 0 ∨ ∃ k, k < 8 ∧ s.launch.writable ((s.ea imm rs).toNat + k) = false) →
      exec (.sdc1 ft imm rs) s = raise (.addressErrorStore (s.ea imm rs)) s) ∧
    ((∃ k, k < (s.ea imm rs).toNat % 4 + 1 ∧ s.launch.writable (wordBase (s.ea imm rs) + k) = false) →
      exec (.swl rt imm rs) s = raise (.addressErrorStore (s.ea imm rs)) s) ∧
    ((∃ k, k < 4 - (s.ea imm rs).toNat % 4 ∧ s.launch.writable ((s.ea imm rs).toNat + k) = false) →
      exec (.swr rt imm rs) s = raise (.addressErrorStore (s.ea imm rs)) s)

/-- After an admitted sw, an lw from the same address gives the stored word, and an lbu from the address plus k (k from 0 to 3)
gives byte k of it: little-endian. Premise: memory in its canonical form; the destination is not register 0. (R61, R73) -/
def Obligations.StoreThenLoad : Prop :=
  ∀ (s : State) (rt rd rs : Reg) (imm imm' : Imm16) (k : Nat), s.mem.wf → rd ≠ 0 → k < 4 → (s.ea imm rs).toNat % 4 = 0 →
    (∀ k, k < 4 → s.launch.writable ((s.ea imm rs).toNat + k) = true) → (∀ k, k < 4 → s.launch.readable ((s.ea imm rs).toNat + k) = true) →
    (s.ea imm' rs).toNat = (s.ea imm rs).toNat + k →
      ∃ t u w, exec (.sw rt imm rs) s = .next t ∧ exec (.lw rd imm rs) t = .next u ∧ u.x rd = s.x rt ∧
        exec (.lbu rd imm' rs) t = .next w ∧ (w.x rd).toNat = (s.x rt).toNat / 2 ^ (8 * k) % 256

/-- teq, tge, tgeu, tlt, tltu, tne raise Trap when the signed or unsigned comparison of rs with rt holds, and otherwise complete,
changing nothing but pc; the code field is not read. (R7, R230, R238, R240, R243, R244, R247, R248) -/
def Obligations.RegisterTraps : Prop :=
  ∀ (s : State) (rs rt : Reg) (code : BitVec 10),
    ((s.x rs = s.x rt → exec (.teq rs rt code) s = raise .trap s) ∧
      (¬(s.x rs = s.x rt) → ∃ t, exec (.teq rs rt code) s = .next t ∧ OnlyPc s t (s.pc + 4))) ∧
    (((s.x rt).toInt ≤ (s.x rs).toInt → exec (.tge rs rt code) s = raise .trap s) ∧
      (¬((s.x rt).toInt ≤ (s.x rs).toInt) → ∃ t, exec (.tge rs rt code) s = .next t ∧ OnlyPc s t (s.pc + 4))) ∧
    (((s.x rt).toNat ≤ (s.x rs).toNat → exec (.tgeu rs rt code) s = raise .trap s) ∧
      (¬((s.x rt).toNat ≤ (s.x rs).toNat) → ∃ t, exec (.tgeu rs rt code) s = .next t ∧ OnlyPc s t (s.pc + 4))) ∧
    (((s.x rs).toInt < (s.x rt).toInt → exec (.tlt rs rt code) s = raise .trap s) ∧
      (¬((s.x rs).toInt < (s.x rt).toInt) → ∃ t, exec (.tlt rs rt code) s = .next t ∧ OnlyPc s t (s.pc + 4))) ∧
    (((s.x rs).toNat < (s.x rt).toNat → exec (.tltu rs rt code) s = raise .trap s) ∧
      (¬((s.x rs).toNat < (s.x rt).toNat) → ∃ t, exec (.tltu rs rt code) s = .next t ∧ OnlyPc s t (s.pc + 4))) ∧
    ((s.x rs ≠ s.x rt → exec (.tne rs rt code) s = raise .trap s) ∧
      (¬(s.x rs ≠ s.x rt) → ∃ t, exec (.tne rs rt code) s = .next t ∧ OnlyPc s t (s.pc + 4)))

/-- teqi, tgei, tgeiu, tlti, tltiu, tnei raise Trap when the comparison of rs with the sign-extended immediate, read unsigned by
tgeiu and tltiu, holds, and otherwise complete, changing nothing but pc. (R7, R94, R230, R239, R241, R242, R245, R246, R249) -/
def Obligations.ImmediateTraps : Prop :=
  ∀ (s : State) (rs : Reg) (imm : Imm16),
    (((s.x rs).toInt = imm.toInt → exec (.teqi rs imm) s = raise .trap s) ∧
      (¬((s.x rs).toInt = imm.toInt) → ∃ t, exec (.teqi rs imm) s = .next t ∧ OnlyPc s t (s.pc + 4))) ∧
    ((imm.toInt ≤ (s.x rs).toInt → exec (.tgei rs imm) s = raise .trap s) ∧
      (¬(imm.toInt ≤ (s.x rs).toInt) → ∃ t, exec (.tgei rs imm) s = .next t ∧ OnlyPc s t (s.pc + 4))) ∧
    (((BitVec.ofInt 32 imm.toInt).toNat ≤ (s.x rs).toNat → exec (.tgeiu rs imm) s = raise .trap s) ∧
      (¬((BitVec.ofInt 32 imm.toInt).toNat ≤ (s.x rs).toNat) → ∃ t, exec (.tgeiu rs imm) s = .next t ∧ OnlyPc s t (s.pc + 4))) ∧
    (((s.x rs).toInt < imm.toInt → exec (.tlti rs imm) s = raise .trap s) ∧
      (¬((s.x rs).toInt < imm.toInt) → ∃ t, exec (.tlti rs imm) s = .next t ∧ OnlyPc s t (s.pc + 4))) ∧
    (((s.x rs).toNat < (BitVec.ofInt 32 imm.toInt).toNat → exec (.tltiu rs imm) s = raise .trap s) ∧
      (¬((s.x rs).toNat < (BitVec.ofInt 32 imm.toInt).toNat) → ∃ t, exec (.tltiu rs imm) s = .next t ∧ OnlyPc s t (s.pc + 4))) ∧
    (((s.x rs).toInt ≠ imm.toInt → exec (.tnei rs imm) s = raise .trap s) ∧
      (¬((s.x rs).toInt ≠ imm.toInt) → ∃ t, exec (.tnei rs imm) s = .next t ∧ OnlyPc s t (s.pc + 4)))

/-- While EXL is 0, raising an exception writes EPC with pc, Cause bits 6:2 with the code of the exception (the other bits
staying), Status bit 1 with 1 (the other bits staying) and, for the two address errors alone, BadVAddr; with a handler pc
becomes EXC_HANDLER and the run goes on; nothing else changes. With no handler pc stays and the run has ended (that this is a
next state is the choice of log 1). (R340, R350, R351, R386) -/
def Obligations.TrapEntry : Prop :=
  ∀ (s : State) (e : Exc), s.exl = false →
    let code : Nat := match e with
      | .addressErrorLoad _ => 4 | .addressErrorStore _ => 5 | .syscall => 8 | .breakpoint => 9
      | .reservedInstruction => 10 | .arithmeticOverflow => 12 | .trap => 13
    let bad : Word := match e with
      | .addressErrorLoad a => a | .addressErrorStore a => a | _ => s.badVAddr
    (∀ h, s.launch.excHandler = some h → ∃ t, raise e s = .next t ∧ EntryOf s t code bad ∧ t.pc = h ∧ t.run = s.run) ∧
    (s.launch.excHandler = none →
      ∃ t, raise e s = .next t ∧ EntryOf s t code bad ∧ t.pc = s.pc ∧ t.run = .ended (.unhandledException e))

/-- While Status bit 1 is 1 raising an exception answers the fault nestedException, which carries no state, so that no register is
changed (R353). While it is 0 the exception is taken (R350): raising answers a next state. That it does so also where there is
no handler, which R350 calls Fault(UnhandledException), is the choice of the model, notes/assumptions/1.md. (R350, R353) -/
def Obligations.NestedException : Prop :=
  ∀ (s : State) (e : Exc),
    (s.status.getLsbD 1 = true → raise e s = .fault (.nestedException e)) ∧
    (s.status.getLsbD 1 = false → ∃ t, raise e s = .next t)

/-- eret completes from every state: pc becomes EPC, Status bit 1 becomes 0 and every other Status bit stays; nothing else
changes. When an exception is taken with a handler and eret runs in the state it leaves, pc is the raising instruction again,
Status is what it was, and no general, coprocessor 1, HI, LO or flag register and no memory byte has changed. (R231, R234,
R352) -/
def Obligations.ExceptionReturn : Prop :=
  (∀ s : State, ∃ t, exec .eret s = .next t ∧ t.pc = s.epc ∧
    (∀ k, k < 32 → t.status.getLsbD k = if k = 1 then false else s.status.getLsbD k) ∧
    t.badVAddr = s.badVAddr ∧ t.cause = s.cause ∧ t.epc = s.epc ∧ SameGpr s t ∧ SameHiLo s t ∧ SameFpr s t ∧
    SameFlags s t ∧ SameMem s t ∧ SameRun s t ∧ t.draws = s.draws) ∧
  (∀ (s : State) (e : Exc) (h : Word), s.exl = false → s.launch.excHandler = some h →
    ∃ t u, raise e s = .next t ∧ t.pc = h ∧ exec .eret t = .next u ∧ u.pc = s.pc ∧ u.status = s.status ∧ SameProgram s u)

/-- From every state break is the exception Breakpoint, and while EXL is 0 it completes by taking it: EPC is the break itself,
Cause bits 6:2 are 9, nothing else of the program changes. With a handler pc is the handler and the run goes on. With none pc
stays and the run has ended with UnhandledException(Breakpoint); that this end, a fault in R350 and R386, is a next state is
the choice of the model, notes/assumptions/1.md. (R233, R350, R386) -/
def Obligations.BreakRaises : Prop :=
  ∀ (s : State) (code : BitVec 20),
    exec (.brk code) s = raise .breakpoint s ∧
    (∀ h, s.exl = false → s.launch.excHandler = some h →
      ∃ t, exec (.brk code) s = .next t ∧ EntryOf s t 9 s.badVAddr ∧ t.pc = h ∧ t.run = s.run) ∧
    (s.exl = false → s.launch.excHandler = none →
      ∃ t, exec (.brk code) s = .next t ∧ EntryOf s t 9 s.badVAddr ∧ t.pc = s.pc ∧
        t.run = .ended (.unhandledException .breakpoint))

/-- Service 10 ends the run normally and changes nothing else. A service that the environment defines completes, at every call: an
answer changes only $v0, $a0, $a1, f[0], f[1] and writable data memory (the last value it writes to a byte), the services stay
defined, and pc advances, or the run ends with pc at the syscall. The answer is the next of the service's script, then its
constant answer; where State gives none, nothing is said of it. Any other service raises Syscall; while EXL is 0 that is
taken, with code 8, to the handler, or, with none, ends the run. That exit and an unhandled exception are next states is the
choice of notes/assumptions/1.md; the form of the environment and the pc of an answer that ends the run are that of
notes/assumptions/4.md. (R237, R350, R386) -/
def Obligations.SystemCall : Prop :=
  ∀ (s : State) (code : BitVec 20),
    (s.x 2 = 10 → ∃ t, exec (.syscall code) s = .next t ∧ t.run = .ended .exit ∧ t.pc = s.pc ∧ SameProgram s t ∧
      SameCop0 s t) ∧
    (∀ e : EnvService, s.x 2 ≠ 10 → s.env.find? (fun c => c.number = s.x 2) = some e →
      ∃ t a, exec (.syscall code) s = .next t ∧
        (∀ b bs, e.script = b :: bs → a = b ∧ t.draws = s.draws) ∧
        (∀ b, e.script = [] → e.always = some b → a = b ∧ t.draws = s.draws) ∧
        t.env.map EnvService.number = s.env.map EnvService.number ∧
        t.env.find? (fun c => c.number = s.x 2) = some { e with script := e.script.tail } ∧
        (a.endsRun = false → t.pc = s.pc + 4 ∧ t.run = s.run) ∧
        (a.endsRun = true → t.pc = s.pc ∧ t.run = .ended .exit) ∧
        (∀ k : Reg, t.x k =
          if k = 2 then a.v0.getD (s.x 2) else if k = 4 then a.a0.getD (s.x 4) else if k = 5 then a.a1.getD (s.x 5)
          else s.x k) ∧
        (∀ k : Reg, t.f k = if k = 0 then a.f0.getD (s.f 0) else if k = 1 then a.f1.getD (s.f 1) else s.f k) ∧
        SameHiLo s t ∧ SameFlags s t ∧ SameCop0 s t ∧ t.launch = s.launch ∧
        (∀ b : Nat, s.launch.dataWritable b = false → t.mem.read b = s.mem.read b) ∧
        (s.mem.wf → ∀ b : Nat, s.launch.dataWritable b = true →
          t.mem.read b = ((a.stores.filter fun c => c.1 = b).getLast?.map Prod.snd).getD (s.mem.read b))) ∧
    (s.x 2 ≠ 10 → (∀ e ∈ s.env, e.number ≠ s.x 2) →
      exec (.syscall code) s = raise .syscall s ∧
      (∀ h, s.exl = false → s.launch.excHandler = some h →
        ∃ t, exec (.syscall code) s = .next t ∧ EntryOf s t 8 s.badVAddr ∧ t.pc = h ∧ t.run = s.run) ∧
      (s.exl = false → s.launch.excHandler = none →
        ∃ t, exec (.syscall code) s = .next t ∧ EntryOf s t 8 s.badVAddr ∧ t.pc = s.pc ∧
          t.run = .ended (.unhandledException .syscall)))

/-- For the four register numbers 8, 12, 13, 14, mfc0 completes with the register in rt (register 0 keeps 0) and mtc0 with rt in
the register, all 32 bits as given; nothing else but pc changes. (R40, R41, R42, R235, R236) -/
def Obligations.Cop0Moves : Prop :=
  ∀ (s : State) (rt : Reg),
    (∃ t, exec (.mfc0 rt 8) s = .next t ∧ OnlyGpr s t rt (s.badVAddr)) ∧
    (∃ t, exec (.mfc0 rt 12) s = .next t ∧ OnlyGpr s t rt (s.status)) ∧
    (∃ t, exec (.mfc0 rt 13) s = .next t ∧ OnlyGpr s t rt (s.cause)) ∧
    (∃ t, exec (.mfc0 rt 14) s = .next t ∧ OnlyGpr s t rt (s.epc)) ∧
    (∃ t, exec (.mtc0 rt 8) s = .next t ∧ t.pc = s.pc + 4 ∧ t.badVAddr = s.x rt ∧ t.status = s.status ∧ t.cause = s.cause ∧ t.epc = s.epc ∧ SameGpr s t ∧ SameHiLo s t ∧
      SameFpr s t ∧ SameFlags s t ∧ SameMem s t ∧ SameRun s t ∧ t.draws = s.draws) ∧
    (∃ t, exec (.mtc0 rt 12) s = .next t ∧ t.pc = s.pc + 4 ∧ t.badVAddr = s.badVAddr ∧ t.status = s.x rt ∧ t.cause = s.cause ∧ t.epc = s.epc ∧ SameGpr s t ∧ SameHiLo s t ∧
      SameFpr s t ∧ SameFlags s t ∧ SameMem s t ∧ SameRun s t ∧ t.draws = s.draws) ∧
    (∃ t, exec (.mtc0 rt 13) s = .next t ∧ t.pc = s.pc + 4 ∧ t.badVAddr = s.badVAddr ∧ t.status = s.status ∧ t.cause = s.x rt ∧ t.epc = s.epc ∧ SameGpr s t ∧ SameHiLo s t ∧
      SameFpr s t ∧ SameFlags s t ∧ SameMem s t ∧ SameRun s t ∧ t.draws = s.draws) ∧
    (∃ t, exec (.mtc0 rt 14) s = .next t ∧ t.pc = s.pc + 4 ∧ t.badVAddr = s.badVAddr ∧ t.status = s.status ∧ t.cause = s.cause ∧ t.epc = s.x rt ∧ SameGpr s t ∧ SameHiLo s t ∧
      SameFpr s t ∧ SameFlags s t ∧ SameMem s t ∧ SameRun s t ∧ t.draws = s.draws)

/-- mfc0 and mtc0 with a register number other than 8, 12, 13, 14 answer the fault unknownCop0Register from every state. (R45) -/
def Obligations.UnknownCop0Register : Prop :=
  ∀ (s : State) (rt n : Reg), n ≠ 8 → n ≠ 12 → n ≠ 13 → n ≠ 14 →
    exec (.mfc0 rt n) s = .fault (.unknownCop0Register n) ∧ exec (.mtc0 rt n) s = .fault (.unknownCop0Register n)

/-- Every double-precision form and ldc1, sdc1, with an odd register number in any position read or written as a double, answers
the fault oddDoubleRegister from every state, whatever flag, register or address it would have tested. (R36) -/
def Obligations.OddDoubleRegister : Prop :=
  ∀ (s : State) (fd fs ft rt rs : Reg) (cc : CondFlag) (imm : Imm16),
    (fd.toNat % 2 = 1 ∨ fs.toNat % 2 = 1 →
      exec (.absD fd fs) s = .fault .oddDoubleRegister ∧
      exec (.negD fd fs) s = .fault .oddDoubleRegister ∧
      exec (.sqrtD fd fs) s = .fault .oddDoubleRegister ∧
      exec (.movD fd fs) s = .fault .oddDoubleRegister ∧
      exec (.movfD fd fs cc) s = .fault .oddDoubleRegister ∧
      exec (.movtD fd fs cc) s = .fault .oddDoubleRegister ∧
      exec (.movnD fd fs rt) s = .fault .oddDoubleRegister ∧
      exec (.movzD fd fs rt) s = .fault .oddDoubleRegister) ∧
    (fd.toNat % 2 = 1 ∨ fs.toNat % 2 = 1 ∨ ft.toNat % 2 = 1 →
      exec (.addD fd fs ft) s = .fault .oddDoubleRegister ∧
      exec (.subD fd fs ft) s = .fault .oddDoubleRegister ∧
      exec (.mulD fd fs ft) s = .fault .oddDoubleRegister ∧
      exec (.divD fd fs ft) s = .fault .oddDoubleRegister) ∧
    (fs.toNat % 2 = 1 ∨ ft.toNat % 2 = 1 →
      exec (.cEqD cc fs ft) s = .fault .oddDoubleRegister ∧
      exec (.cLeD cc fs ft) s = .fault .oddDoubleRegister ∧
      exec (.cLtD cc fs ft) s = .fault .oddDoubleRegister) ∧
    (fs.toNat % 2 = 1 →
      exec (.ceilWD fd fs) s = .fault .oddDoubleRegister ∧
      exec (.floorWD fd fs) s = .fault .oddDoubleRegister ∧
      exec (.roundWD fd fs) s = .fault .oddDoubleRegister ∧
      exec (.truncWD fd fs) s = .fault .oddDoubleRegister ∧
      exec (.cvtWD fd fs) s = .fault .oddDoubleRegister ∧
      exec (.cvtSD fd fs) s = .fault .oddDoubleRegister) ∧
    (fd.toNat % 2 = 1 →
      exec (.cvtDS fd fs) s = .fault .oddDoubleRegister ∧
      exec (.cvtDW fd fs) s = .fault .oddDoubleRegister) ∧
    (ft.toNat % 2 = 1 →
      exec (.ldc1 ft imm rs) s = .fault .oddDoubleRegister ∧
      exec (.sdc1 ft imm rs) s = .fault .oddDoubleRegister)

/-- Each single form completes from every state with every register, odd or even, each double form with every register number
even: the destination, f[fd] or the pair d[fd], receives the rounded IEEE 754 result of the old operands, or, where the result
is a NaN, some pattern that is a NaN (which one is not fixed); no other register, flag, Coprocessor 0 register or byte of
memory changes, and nothing is raised. ExactThenRounded, QuotientAndRoot and SpecialResults say what the results are. (R263,
R266, R269, R270, R271, R272, R273, R274, R277, R278, R279, R280) -/
def Obligations.FloatArithmetic : Prop :=
  (∀ (s : State) (fd fs ft : Reg),
    (∃ t v, exec (.addS fd fs ft) s = .next t ∧ OnlyFpr s t fd v ∧
      SingleResult (asSingle (single.add (b32 (s.f fs)) (b32 (s.f ft)))) v) ∧
    (∃ t v, exec (.subS fd fs ft) s = .next t ∧ OnlyFpr s t fd v ∧
      SingleResult (asSingle (single.sub (b32 (s.f fs)) (b32 (s.f ft)))) v) ∧
    (∃ t v, exec (.mulS fd fs ft) s = .next t ∧ OnlyFpr s t fd v ∧
      SingleResult (asSingle (single.mul (b32 (s.f fs)) (b32 (s.f ft)))) v) ∧
    (∃ t v, exec (.divS fd fs ft) s = .next t ∧ OnlyFpr s t fd v ∧
      SingleResult (asSingle (single.div (b32 (s.f fs)) (b32 (s.f ft)))) v) ∧
    (∃ t v, exec (.sqrtS fd fs) s = .next t ∧ OnlyFpr s t fd v ∧
      SingleResult (asSingle (single.sqrt (b32 (s.f fs)))) v)) ∧
  (∀ (s : State) (fd fs ft : Reg), fd.toNat % 2 = 0 → fs.toNat % 2 = 0 → ft.toNat % 2 = 0 →
    (∃ t v, exec (.addD fd fs ft) s = .next t ∧ OnlyPair s t fd v ∧
      DoubleResult (asDouble (double.add (b64 (s.d fs)) (b64 (s.d ft)))) v) ∧
    (∃ t v, exec (.subD fd fs ft) s = .next t ∧ OnlyPair s t fd v ∧
      DoubleResult (asDouble (double.sub (b64 (s.d fs)) (b64 (s.d ft)))) v) ∧
    (∃ t v, exec (.mulD fd fs ft) s = .next t ∧ OnlyPair s t fd v ∧
      DoubleResult (asDouble (double.mul (b64 (s.d fs)) (b64 (s.d ft)))) v) ∧
    (∃ t v, exec (.divD fd fs ft) s = .next t ∧ OnlyPair s t fd v ∧
      DoubleResult (asDouble (double.div (b64 (s.d fs)) (b64 (s.d ft)))) v) ∧
    (∃ t v, exec (.sqrtD fd fs) s = .next t ∧ OnlyPair s t fd v ∧
      DoubleResult (asDouble (double.sqrt (b64 (s.d fs)))) v))

/-- abs.s, neg.s, abs.d and neg.d (even registers) complete from every state: for an operand that is not a NaN the destination
receives it with the sign bit cleared or inverted and every other bit the same, for a NaN some NaN; nothing else but pc
changes. (R265, R267, R268, R275, R276) -/
def Obligations.SignOperations : Prop :=
  ∀ (s : State) (fd fs : Reg),
    (∃ t v, exec (.absS fd fs) s = .next t ∧ OnlyFpr s t fd v ∧
      if isNan32 (s.f fs) then isNan32 v = true
      else ∀ k, k < 32 → v.getLsbD k = if k = 31 then false else (s.f fs).getLsbD k) ∧
    (∃ t v, exec (.negS fd fs) s = .next t ∧ OnlyFpr s t fd v ∧
      if isNan32 (s.f fs) then isNan32 v = true
      else ∀ k, k < 32 → v.getLsbD k = if k = 31 then !(s.f fs).getLsbD k else (s.f fs).getLsbD k) ∧
    (fd.toNat % 2 = 0 → fs.toNat % 2 = 0 →
      (∃ t v, exec (.absD fd fs) s = .next t ∧ OnlyPair s t fd v ∧
        if isNan64 (s.d fs) then isNan64 v = true
        else ∀ k, k < 64 → v.getLsbD k = if k = 63 then false else (s.d fs).getLsbD k) ∧
      (∃ t v, exec (.negD fd fs) s = .next t ∧ OnlyPair s t fd v ∧
        if isNan64 (s.d fs) then isNan64 v = true
        else ∀ k, k < 64 → v.getLsbD k = if k = 63 then !(s.d fs).getLsbD k else (s.d fs).getLsbD k))

/-- For every non-zero exact number x = (-1)^neg * m * 2^e, the encoder of each format gives the infinity of its sign exactly when
|x| is at least half a unit past the largest finite number (2^128 - 2^103 for single, 2^1024 - 2^970 for double), and
otherwise a finite pattern of its sign whose value is at least as near to x as the value of any finite pattern, the pattern's
last bit being 0 when another value is as near. (R260, R261) -/
def Obligations.RoundsToNearest : Prop :=
  ∀ (f : FpFormat) (bound : ℚ),
    f = single ∧ bound = 2 ^ (128 : Nat) - 2 ^ (103 : Nat) ∨ f = double ∧ bound = 2 ^ (1024 : Nat) - 2 ^ (970 : Nat) →
    ∀ (neg : Bool) (m : Nat) (e : Int), m ≠ 0 →
      if bound ≤ (m : ℚ) * 2 ^ e then f.decode (f.encode neg m e false) = .inf neg
      else
        ∃ n g, f.decode (f.encode neg m e false) = .fin neg n g ∧
          ∀ (b : Nat) (neg' : Bool) (n' : Nat) (g' : Int), f.decode b = .fin neg' n' g' →
            |finiteValue neg m e - finiteValue neg n g| ≤ |finiteValue neg m e - finiteValue neg' n' g'| ∧
            (|finiteValue neg m e - finiteValue neg n g| = |finiteValue neg m e - finiteValue neg' n' g'| →
              finiteValue neg n g ≠ finiteValue neg' n' g' → f.encode neg m e false % 2 = 0)

/-- In every binary format, single and double, the sum, difference and product of two finite numbers are the encoding of one exact
number: when the exact value of x + y, x - y or x * y is not 0 the result is the encoding (RoundsToNearest) of a number m *
2^e with exactly that value; when it is 0 the result is a zero: -0 for a sum of two minus signs (for a difference, -x and +y),
else +0, and for the product the xor of the signs. (R260, R261, R264) -/
def Obligations.ExactThenRounded : Prop :=
  ∀ (f : FpFormat) (a b : Bool) (m n : Nat) (e g : Int),
    (∃ r, f.add (.fin a m e) (.fin b n g) = some r ∧
      if finiteValue a m e + finiteValue b n g = 0 then r = f.signBit (a && b)
      else ∃ c k h, k ≠ 0 ∧ finiteValue c k h = finiteValue a m e + finiteValue b n g ∧ r = f.encode c k h false) ∧
    (∃ r, f.sub (.fin a m e) (.fin b n g) = some r ∧
      if finiteValue a m e - finiteValue b n g = 0 then r = f.signBit (a && !b)
      else ∃ c k h, k ≠ 0 ∧ finiteValue c k h = finiteValue a m e - finiteValue b n g ∧ r = f.encode c k h false) ∧
    (∃ r, f.mul (.fin a m e) (.fin b n g) = some r ∧
      if finiteValue a m e * finiteValue b n g = 0 then r = f.signBit (a ^^ b)
      else ∃ k h, k ≠ 0 ∧ finiteValue (a ^^ b) k h = finiteValue a m e * finiteValue b n g ∧ r = f.encode (a ^^ b) k h false)

/-- In each format, for patterns of finite non-zero numbers x and y (the root: x positive): the quotient is the infinity of the
xor of the signs when |x / y| is at least half a unit past the largest finite number, and otherwise a finite pattern of that
sign whose value is at least as near to x / y as that of any finite pattern, its last bit being 0 when another value is as
near; the root is a pattern with a value v at least as near to the exact root as that of any other: 4x <= (u + v)^2 for every
greater pattern value u, (u + v)^2 <= 4x for every smaller one that is not negative (no root lies half way between two
patterns). (R261) -/
def Obligations.QuotientAndRoot : Prop :=
  ∀ (f : FpFormat) (bound : ℚ),
    f = single ∧ bound = 2 ^ (128 : Nat) - 2 ^ (103 : Nat) ∨ f = double ∧ bound = 2 ^ (1024 : Nat) - 2 ^ (970 : Nat) →
    ∀ (p q : Nat) (a b : Bool) (m n : Nat) (e g : Int), m ≠ 0 → n ≠ 0 → f.decode p = .fin a m e → f.decode q = .fin b n g →
    (∃ r, f.div (f.decode p) (f.decode q) = some r ∧
      if bound ≤ |finiteValue a m e / finiteValue b n g| then f.decode r = .inf (a ^^ b)
      else ∃ k h, f.decode r = .fin (a ^^ b) k h ∧
        ∀ (w : Nat) (c : Bool) (k' : Nat) (h' : Int), f.decode w = .fin c k' h' →
          |finiteValue a m e / finiteValue b n g - finiteValue (a ^^ b) k h| ≤
            |finiteValue a m e / finiteValue b n g - finiteValue c k' h'| ∧
          (|finiteValue a m e / finiteValue b n g - finiteValue (a ^^ b) k h| =
            |finiteValue a m e / finiteValue b n g - finiteValue c k' h'| →
              finiteValue (a ^^ b) k h ≠ finiteValue c k' h' → r % 2 = 0)) ∧
    (a = false → ∃ r k h, f.sqrt (f.decode p) = some r ∧ f.decode r = .fin false k h ∧
      ∀ (w k' : Nat) (h' : Int), f.decode w = .fin false k' h' →
        (finiteValue false k h < finiteValue false k' h' →
          4 * finiteValue a m e ≤ (finiteValue false k' h' + finiteValue false k h) ^ 2) ∧
        (finiteValue false k' h' < finiteValue false k h →
          (finiteValue false k' h' + finiteValue false k h) ^ 2 ≤ 4 * finiteValue a m e))

/-- For every single-precision and every double-precision pattern that is not a NaN, zeros of both signs, denormals and infinities
included, converting its value to its own format gives exactly that pattern. (R260) -/
def Obligations.FormatRoundTrip : Prop :=
  (∀ v : Word, isNan32 v = false → asSingle (single.convert (b32 v)) = some v) ∧
  (∀ v : DWord, isNan64 v = false → asDouble (double.convert (b64 v)) = some v)

/-- In every binary format, single and double: a NaN operand gives a NaN; x - x is +0 for finite x; inf + inf of one sign, inf +
finite and inf - finite keep the infinity, finite - inf negates it, and inf - inf is a NaN; inf * inf and inf * a non-zero
finite number are the infinity with the xor of the signs, and so are inf / finite and a non-zero finite number / 0; finite /
inf is the zero with the xor sign; 0 / 0, inf / inf, 0 * inf and the root of a negative number or infinity are NaNs; sqrt(+0)
is +0, sqrt(-0) is -0 and sqrt(+inf) is +inf; to another format an infinity keeps its sign and a zero its sign. (R262, R263,
R264) -/
def Obligations.SpecialResults : Prop :=
  ∀ (f : FpFormat) (v : FpVal) (a b : Bool) (m n : Nat) (e g : Int), m ≠ 0 →
    (f.add .nan v = none ∧ f.add v .nan = none ∧ f.sub .nan v = none ∧ f.sub v .nan = none ∧ f.mul .nan v = none ∧
      f.mul v .nan = none ∧ f.div .nan v = none ∧ f.div v .nan = none ∧ f.sqrt .nan = none ∧ f.convert .nan = none) ∧
    (f.sub (.fin a n e) (.fin a n e) = some (f.signBit false) ∧ f.add (.inf a) (.inf a) = some (f.infBits a) ∧
      f.add (.inf a) (.inf (!a)) = none ∧ f.sub (.inf a) (.inf a) = none ∧ f.sub (.inf a) (.inf (!a)) = some (f.infBits a) ∧
      f.add (.inf a) (.fin b n g) = some (f.infBits a) ∧ f.add (.fin b n g) (.inf a) = some (f.infBits a) ∧
      f.sub (.inf a) (.fin b n g) = some (f.infBits a) ∧ f.sub (.fin b n g) (.inf a) = some (f.infBits (!a))) ∧
    (f.mul (.inf a) (.inf b) = some (f.infBits (a ^^ b)) ∧ f.mul (.inf a) (.fin b m g) = some (f.infBits (a ^^ b)) ∧
      f.mul (.fin a m e) (.inf b) = some (f.infBits (a ^^ b)) ∧ f.mul (.fin a 0 e) (.inf b) = none ∧
      f.mul (.inf a) (.fin b 0 e) = none) ∧
    (f.div (.fin a m e) (.fin b 0 g) = some (f.infBits (a ^^ b)) ∧ f.div (.inf a) (.fin b n g) = some (f.infBits (a ^^ b)) ∧
      f.div (.fin a n e) (.inf b) = some (f.signBit (a ^^ b)) ∧ f.div (.fin a 0 e) (.fin b m g) = some (f.signBit (a ^^ b)) ∧
      f.div (.fin a 0 e) (.fin b 0 g) = none ∧ f.div (.inf a) (.inf b) = none) ∧
    (f.sqrt (.fin true m e) = none ∧ f.sqrt (.fin a 0 e) = some (f.signBit a) ∧
      f.sqrt (.inf false) = some (f.infBits false) ∧ f.sqrt (.inf true) = none) ∧
    (f.convert (.inf a) = some (f.infBits a) ∧ f.convert (.fin a 0 e) = some (f.signBit a))

/-- c.eq.s, c.le.s, c.lt.s, and with even registers c.eq.d, c.le.d, c.lt.d, complete from every state: the named flag becomes the
relation of fs to ft and nothing else but pc changes. Between finite numbers eq and lt hold exactly when the exact values are
equal or less (so +0 equals -0); an infinity equals itself alone; minus infinity is less than every finite number and those
than plus infinity; le is lt or eq, whatever the operands; with a NaN on either side none holds. (R291, R294, R295, R296,
R297, R298, R299) -/
def Obligations.Compares : Prop :=
  (∀ (s : State) (cc : CondFlag) (fs ft : Reg),
    (∃ t, exec (.cEqS cc fs ft) s = .next t ∧ OnlyFlag s t cc (fpEq (b32 (s.f fs)) (b32 (s.f ft)))) ∧
    (∃ t, exec (.cLeS cc fs ft) s = .next t ∧ OnlyFlag s t cc (fpLe (b32 (s.f fs)) (b32 (s.f ft)))) ∧
    (∃ t, exec (.cLtS cc fs ft) s = .next t ∧ OnlyFlag s t cc (fpLt (b32 (s.f fs)) (b32 (s.f ft)))) ∧
    (fs.toNat % 2 = 0 → ft.toNat % 2 = 0 →
      (∃ t, exec (.cEqD cc fs ft) s = .next t ∧ OnlyFlag s t cc (fpEq (b64 (s.d fs)) (b64 (s.d ft)))) ∧
      (∃ t, exec (.cLeD cc fs ft) s = .next t ∧ OnlyFlag s t cc (fpLe (b64 (s.d fs)) (b64 (s.d ft)))) ∧
      (∃ t, exec (.cLtD cc fs ft) s = .next t ∧ OnlyFlag s t cc (fpLt (b64 (s.d fs)) (b64 (s.d ft)))))) ∧
  ((∀ (a b : Bool) (m n : Nat) (e g : Int),
    (fpEq (.fin a m e) (.fin b n g) = true ↔ finiteValue a m e = finiteValue b n g) ∧
    (fpLt (.fin a m e) (.fin b n g) = true ↔ finiteValue a m e < finiteValue b n g) ∧
    (fpLe (.fin a m e) (.fin b n g) = true ↔ finiteValue a m e ≤ finiteValue b n g)) ∧
  (∀ (a b : Bool) (m : Nat) (e : Int),
    (fpEq (.inf a) (.inf b) = true ↔ a = b) ∧ fpEq (.inf a) (.fin b m e) = false ∧ fpEq (.fin b m e) (.inf a) = false ∧
    fpLt (.inf true) (.fin b m e) = true ∧ fpLt (.fin b m e) (.inf false) = true ∧
    fpLt (.inf true) (.inf false) = true ∧ fpLt (.inf false) (.inf true) = false ∧
    fpLt (.fin b m e) (.inf true) = false ∧ fpLt (.inf false) (.fin b m e) = false ∧ fpLt (.inf a) (.inf a) = false) ∧
  (∀ v : FpVal, fpEq .nan v = false ∧ fpEq v .nan = false ∧ fpLt .nan v = false ∧ fpLt v .nan = false ∧
    fpLe .nan v = false ∧ fpLe v .nan = false) ∧
  (∀ u v : FpVal, fpLe u v = true ↔ fpLt u v = true ∨ fpEq u v = true))

/-- The four conversions, from a single, or from a double with fs even (fd may be odd), complete from every state: f[fd] receives
the integer word in the direction of the mnemonic and nothing else but pc changes. For a finite number the integer n is the
floor, the ceiling, the truncation, or the nearest integer with ties to even of its exact value; the word is n when -2^31 <= n
<= 2^31-1 and 0x7FFFFFFF otherwise, and 0x7FFFFFFF for a NaN and the infinities. (R37, R292, R300, R301, R308, R309, R324,
R325, R326, R327) -/
def Obligations.ConvertToWord : Prop :=
  (∀ (s : State) (fd fs : Reg),
    (∃ t, exec (.ceilWS fd fs) s = .next t ∧ OnlyFpr s t fd (toWord .towardPosInf (b32 (s.f fs))) ∧ t.draws = s.draws) ∧
    (∃ t, exec (.floorWS fd fs) s = .next t ∧ OnlyFpr s t fd (toWord .towardNegInf (b32 (s.f fs))) ∧ t.draws = s.draws) ∧
    (∃ t, exec (.roundWS fd fs) s = .next t ∧ OnlyFpr s t fd (toWord .nearestEven (b32 (s.f fs))) ∧ t.draws = s.draws) ∧
    (∃ t, exec (.truncWS fd fs) s = .next t ∧ OnlyFpr s t fd (toWord .towardZero (b32 (s.f fs))) ∧ t.draws = s.draws) ∧
    (fs.toNat % 2 = 0 →
      (∃ t, exec (.ceilWD fd fs) s = .next t ∧ OnlyFpr s t fd (toWord .towardPosInf (b64 (s.d fs))) ∧ t.draws = s.draws) ∧
      (∃ t, exec (.floorWD fd fs) s = .next t ∧ OnlyFpr s t fd (toWord .towardNegInf (b64 (s.d fs))) ∧ t.draws = s.draws) ∧
      (∃ t, exec (.roundWD fd fs) s = .next t ∧ OnlyFpr s t fd (toWord .nearestEven (b64 (s.d fs))) ∧ t.draws = s.draws) ∧
      (∃ t, exec (.truncWD fd fs) s = .next t ∧ OnlyFpr s t fd (toWord .towardZero (b64 (s.d fs))) ∧ t.draws = s.draws))) ∧
  ((∀ (a : Bool) (m : Nat) (e : Int),
    roundToInt .towardNegInf a m e = ⌊finiteValue a m e⌋ ∧
    roundToInt .towardPosInf a m e = ⌈finiteValue a m e⌉ ∧
    roundToInt .towardZero a m e = (if a then ⌈finiteValue a m e⌉ else ⌊finiteValue a m e⌋) ∧
    |finiteValue a m e - roundToInt .nearestEven a m e| ≤ 1 / 2 ∧
    (|finiteValue a m e - roundToInt .nearestEven a m e| = 1 / 2 → roundToInt .nearestEven a m e % 2 = 0)) ∧
  (∀ (d : RoundDir) (a : Bool) (m : Nat) (e : Int),
    (-2 ^ 31 ≤ roundToInt d a m e ∧ roundToInt d a m e ≤ 2 ^ 31 - 1 →
      (toWord d (.fin a m e)).toInt = roundToInt d a m e) ∧
    (roundToInt d a m e < -2 ^ 31 ∨ 2 ^ 31 - 1 < roundToInt d a m e → toWord d (.fin a m e) = 0x7FFFFFFF) ∧
    toWord d .nan = 0x7FFFFFFF ∧ toWord d (.inf a) = 0x7FFFFFFF))

/-- cvt.w.s, and cvt.w.d with fs even, complete from every state with f[fd] the word of the mips32 or of the mars candidate,
nothing else but pc changing. mips32: the nearest integer n, ties to even, if n lies in -2^31 .. 2^31-1, and 0x7FFFFFFF for
any other n, a NaN and the infinities. mars: the value cut toward zero, saturated to 0x7FFFFFFF above and 0x80000000 below the
range, the infinities likewise, and 0 for a NaN. Nothing is said of which candidate it is (notes/assumptions/7.md). (R306,
R307) -/
def Obligations.ConvertToWordOpenMode : Prop :=
  (∀ (s : State) (fd fs : Reg),
    (∃ t v, exec (.cvtWS fd fs) s = .next t ∧ OnlyFpr s t fd v ∧ t.draws = s.draws ∧
      (v = cvtWordMips (b32 (s.f fs)) ∨ v = cvtWordMars (b32 (s.f fs)))) ∧
    (fs.toNat % 2 = 0 → ∃ t v, exec (.cvtWD fd fs) s = .next t ∧ OnlyFpr s t fd v ∧ t.draws = s.draws ∧
      (v = cvtWordMips (b64 (s.d fs)) ∨ v = cvtWordMars (b64 (s.d fs))))) ∧
  (∀ (a : Bool) (m : Nat) (e : Int), ∃ n : Int,
    |finiteValue a m e - n| ≤ 1 / 2 ∧ (|finiteValue a m e - n| = 1 / 2 → n % 2 = 0) ∧
      cvtWordMips (.fin a m e) = if -2 ^ 31 ≤ n ∧ n ≤ 2 ^ 31 - 1 then BitVec.ofInt 32 n else 0x7FFFFFFF) ∧
  (∀ (a : Bool) (m : Nat) (e n : Int), n = (if a then ⌈finiteValue a m e⌉ else ⌊finiteValue a m e⌋) →
    cvtWordMars (.fin a m e) =
      if 2 ^ 31 - 1 < n then 0x7FFFFFFF else if n < -2 ^ 31 then 0x80000000 else BitVec.ofInt 32 n) ∧
  cvtWordMips .nan = 0x7FFFFFFF ∧ (∀ a : Bool, cvtWordMips (.inf a) = 0x7FFFFFFF) ∧
  cvtWordMars .nan = 0 ∧ cvtWordMars (.inf false) = 0x7FFFFFFF ∧ cvtWordMars (.inf true) = 0x80000000 ∧
  (∀ (a : Bool) (m : Nat) (e n : Int), finiteValue a m e = n → -2 ^ 31 ≤ n → n ≤ 2 ^ 31 - 1 →
    cvtWordMips (.fin a m e) = BitVec.ofInt 32 n ∧ cvtWordMars (.fin a m e) = BitVec.ofInt 32 n)

/-- Each completes from every state (fs even for cvt.s.d, fd even for cvt.d.s and cvt.d.w) and changes nothing but pc and its
destination. A NaN gives some NaN, an infinity the infinity of its sign, a zero the zero of its sign (the word 0 gives +0).
cvt.s.d of another finite double and cvt.s.w of another word give the single-precision encoding (RoundsToNearest) of the exact
value; cvt.d.s of a finite single and cvt.d.w of a word give a double of exactly that value. (R261, R263, R290, R302, R303,
R304, R305) -/
def Obligations.ConvertFormats : Prop :=
  (∀ (s : State) (fd fs : Reg),
    (fs.toNat % 2 = 0 → ∃ t v, exec (.cvtSD fd fs) s = .next t ∧ OnlyFpr s t fd v ∧
      match b64 (s.d fs) with
      | .nan => isNan32 v = true
      | .inf a => b32 v = .inf a ∧ t.draws = s.draws
      | .fin a m e => t.draws = s.draws ∧
          if m = 0 then v = (if a then 0x80000000 else 0) else v = BitVec.ofNat 32 (single.encode a m e false)) ∧
    (∃ t v, exec (.cvtSW fd fs) s = .next t ∧ OnlyFpr s t fd v ∧ t.draws = s.draws ∧
      if s.f fs = 0 then v = 0
      else v = BitVec.ofNat 32 (single.encode (decide ((s.f fs).toInt < 0)) (s.f fs).toInt.natAbs 0 false)) ∧
    (fd.toNat % 2 = 0 →
      (∃ t v, exec (.cvtDS fd fs) s = .next t ∧ OnlyPair s t fd v ∧
        match b32 (s.f fs) with
        | .nan => isNan64 v = true
        | .inf a => b64 v = .inf a ∧ t.draws = s.draws
        | .fin a m e => t.draws = s.draws ∧ ∃ n g, b64 v = .fin a n g ∧ finiteValue a n g = finiteValue a m e) ∧
      (∃ t v, exec (.cvtDW fd fs) s = .next t ∧ OnlyPair s t fd v ∧ t.draws = s.draws ∧
        ∃ a n g, b64 v = .fin a n g ∧ finiteValue a n g = ((s.f fs).toInt : ℚ) ∧ (s.f fs = 0 → a = false))))

/-- Each single form completes from every state, each double form with even registers: mov copies f[fs] or the pair d[fs] to fd,
mfc1 f[fs] to rt (register 0 keeps 0), mtc1 rt to f[fs], bit for bit; movf, movt, movn, movz copy when their condition holds
and otherwise change nothing but pc. Nothing else changes. (R310, R311, R312, R314, R315, R316, R317, R319, R320, R321, R322,
R323) -/
def Obligations.FloatMoves : Prop :=
  (∀ (s : State) (fd fs rt : Reg) (cc : CondFlag),
    (∃ t, exec (.movS fd fs) s = .next t ∧ OnlyFpr s t fd (s.f fs) ∧ t.draws = s.draws) ∧
    (∃ t, exec (.mfc1 rt fs) s = .next t ∧ OnlyGpr s t rt (s.f fs)) ∧
    (∃ t, exec (.mtc1 rt fs) s = .next t ∧ OnlyFpr s t fs (s.x rt) ∧ t.draws = s.draws) ∧
    (∃ t, exec (.movfS fd fs cc) s = .next t ∧ t.draws = s.draws ∧ if s.flag cc = false then OnlyFpr s t fd (s.f fs) else OnlyPc s t (s.pc + 4)) ∧
    (∃ t, exec (.movtS fd fs cc) s = .next t ∧ t.draws = s.draws ∧ if s.flag cc = true then OnlyFpr s t fd (s.f fs) else OnlyPc s t (s.pc + 4)) ∧
    (∃ t, exec (.movnS fd fs rt) s = .next t ∧ t.draws = s.draws ∧ if s.x rt ≠ 0 then OnlyFpr s t fd (s.f fs) else OnlyPc s t (s.pc + 4)) ∧
    (∃ t, exec (.movzS fd fs rt) s = .next t ∧ t.draws = s.draws ∧ if s.x rt = 0 then OnlyFpr s t fd (s.f fs) else OnlyPc s t (s.pc + 4))) ∧
  (∀ (s : State) (fd fs rt : Reg) (cc : CondFlag), fd.toNat % 2 = 0 → fs.toNat % 2 = 0 →
    (∃ t, exec (.movD fd fs) s = .next t ∧ OnlyPair s t fd (s.d fs) ∧ t.draws = s.draws) ∧
    (∃ t, exec (.movfD fd fs cc) s = .next t ∧ t.draws = s.draws ∧ if s.flag cc = false then OnlyPair s t fd (s.d fs) else OnlyPc s t (s.pc + 4)) ∧
    (∃ t, exec (.movtD fd fs cc) s = .next t ∧ t.draws = s.draws ∧ if s.flag cc = true then OnlyPair s t fd (s.d fs) else OnlyPc s t (s.pc + 4)) ∧
    (∃ t, exec (.movnD fd fs rt) s = .next t ∧ t.draws = s.draws ∧ if s.x rt ≠ 0 then OnlyPair s t fd (s.d fs) else OnlyPc s t (s.pc + 4)) ∧
    (∃ t, exec (.movzD fd fs rt) s = .next t ∧ t.draws = s.draws ∧ if s.x rt = 0 then OnlyPair s t fd (s.d fs) else OnlyPc s t (s.pc + 4)))

end Statements
end

