-- ==== Sys2Proof/Laws/Encoding.lean ====
section
/-! SUPPORT. The words of the formats: the fields read back, the fixed bits, and that no two rows of the opcode table select one
word but `nop` and `sll`. -/

namespace Sys2Proof

/-! ### A field is read back from the word it was put in -/

@[simp] theorem rsOf_wordR (op rs rt rd sa funct) : rsOf (wordR op rs rt rd sa funct) = rs := by
  apply BitVec.eq_of_getLsbD_eq
  intro i hi
  simp only [rsOf, wordR, BitVec.getLsbD_extractLsb', BitVec.getLsbD_append, hi, decide_true, Bool.true_and]
  rw [if_neg (by omega), if_neg (by omega), if_neg (by omega), if_neg (by omega), if_pos (by omega)]
  congr 1; omega

@[simp] theorem rtOf_wordR (op rs rt rd sa funct) : rtOf (wordR op rs rt rd sa funct) = rt := by
  apply BitVec.eq_of_getLsbD_eq
  intro i hi
  simp only [rtOf, wordR, BitVec.getLsbD_extractLsb', BitVec.getLsbD_append, hi, decide_true, Bool.true_and]
  rw [if_neg (by omega), if_neg (by omega), if_neg (by omega), if_pos (by omega)]
  congr 1; omega

@[simp] theorem rdOf_wordR (op rs rt rd sa funct) : rdOf (wordR op rs rt rd sa funct) = rd := by
  apply BitVec.eq_of_getLsbD_eq
  intro i hi
  simp only [rdOf, wordR, BitVec.getLsbD_extractLsb', BitVec.getLsbD_append, hi, decide_true, Bool.true_and]
  rw [if_neg (by omega), if_neg (by omega), if_pos (by omega)]
  congr 1; omega

@[simp] theorem saOf_wordR (op rs rt rd sa funct) : saOf (wordR op rs rt rd sa funct) = sa := by
  apply BitVec.eq_of_getLsbD_eq
  intro i hi
  simp only [saOf, wordR, BitVec.getLsbD_extractLsb', BitVec.getLsbD_append, hi, decide_true, Bool.true_and]
  rw [if_neg (by omega), if_pos (by omega)]
  congr 1; omega

@[simp] theorem rsOf_wordI (op rs rt imm) : rsOf (wordI op rs rt imm) = rs := by
  apply BitVec.eq_of_getLsbD_eq
  intro i hi
  simp only [rsOf, wordI, BitVec.getLsbD_extractLsb', BitVec.getLsbD_append, hi, decide_true, Bool.true_and]
  rw [if_neg (by omega), if_neg (by omega), if_pos (by omega)]
  congr 1; omega

@[simp] theorem rtOf_wordI (op rs rt imm) : rtOf (wordI op rs rt imm) = rt := by
  apply BitVec.eq_of_getLsbD_eq
  intro i hi
  simp only [rtOf, wordI, BitVec.getLsbD_extractLsb', BitVec.getLsbD_append, hi, decide_true, Bool.true_and]
  rw [if_neg (by omega), if_pos (by omega)]
  congr 1; omega

@[simp] theorem immOf_wordI (op rs rt imm) : immOf (wordI op rs rt imm) = imm := by
  apply BitVec.eq_of_getLsbD_eq
  intro i hi
  simp only [immOf, wordI, BitVec.getLsbD_extractLsb', BitVec.getLsbD_append, hi, decide_true, Bool.true_and]
  rw [if_pos (by omega)]
  congr 1; omega

@[simp] theorem indexOf_wordJ (op index) : indexOf (wordJ op index) = index := by
  apply BitVec.eq_of_getLsbD_eq
  intro i hi
  simp only [indexOf, wordJ, BitVec.getLsbD_extractLsb', BitVec.getLsbD_append, hi, decide_true, Bool.true_and]
  rw [if_pos (by omega)]
  congr 1; omega

@[simp] theorem rsOf_wordTrap (rs rt code funct) : rsOf (wordTrap rs rt code funct) = rs := by
  apply BitVec.eq_of_getLsbD_eq
  intro i hi
  simp only [rsOf, wordTrap, BitVec.getLsbD_extractLsb', BitVec.getLsbD_append, hi, decide_true, Bool.true_and]
  rw [if_neg (by omega), if_neg (by omega), if_neg (by omega), if_pos (by omega)]
  congr 1; omega

@[simp] theorem rtOf_wordTrap (rs rt code funct) : rtOf (wordTrap rs rt code funct) = rt := by
  apply BitVec.eq_of_getLsbD_eq
  intro i hi
  simp only [rtOf, wordTrap, BitVec.getLsbD_extractLsb', BitVec.getLsbD_append, hi, decide_true, Bool.true_and]
  rw [if_neg (by omega), if_neg (by omega), if_pos (by omega)]
  congr 1; omega

@[simp] theorem code10Of_wordTrap (rs rt code funct) : code10Of (wordTrap rs rt code funct) = code := by
  apply BitVec.eq_of_getLsbD_eq
  intro i hi
  simp only [code10Of, wordTrap, BitVec.getLsbD_extractLsb', BitVec.getLsbD_append, hi, decide_true, Bool.true_and]
  rw [if_neg (by omega), if_pos (by omega)]
  congr 1; omega

@[simp] theorem code20Of_wordCode (code funct) : code20Of (wordCode code funct) = code := by
  apply BitVec.eq_of_getLsbD_eq
  intro i hi
  simp only [code20Of, wordCode, BitVec.getLsbD_extractLsb', BitVec.getLsbD_append, hi, decide_true, Bool.true_and]
  rw [if_neg (by omega), if_pos (by omega)]
  congr 1; omega

/-- The flag number of a branch or a conditional move is the top of field rt. -/
theorem ccOf_eq (w : Word) : ccOf w = (rtOf w).extractLsb' 2 3 := by
  apply BitVec.eq_of_getLsbD_eq
  intro i hi
  simp only [ccOf, rtOf, BitVec.getLsbD_extractLsb', hi, decide_true, Bool.true_and]
  rw [show 16 + (2 + i) = 18 + i by omega]
  simp [show 2 + i < 5 by omega]

/-- The flag number of a compare is the top of field sa. -/
theorem ccCmpOf_eq (w : Word) : ccCmpOf w = (saOf w).extractLsb' 2 3 := by
  apply BitVec.eq_of_getLsbD_eq
  intro i hi
  simp only [ccCmpOf, saOf, BitVec.getLsbD_extractLsb', hi, decide_true, Bool.true_and]
  rw [show 6 + (2 + i) = 8 + i by omega]
  simp [show 2 + i < 5 by omega]

@[simp] theorem ccField_cc : ∀ (cc : CondFlag) (tf : BitVec 1), (ccField cc tf).extractLsb' 2 3 = cc := by decide

@[simp] theorem ccCmpField_cc : ∀ cc : CondFlag, (ccCmpField cc).extractLsb' 2 3 = cc := by decide

@[simp] theorem ccField_and_three : ∀ (cc : CondFlag) (tf : BitVec 1), ccField cc tf &&& 3#5 = ccField 0 tf := by decide

@[simp] theorem ccCmpField_and_three : ∀ cc : CondFlag, ccCmpField cc &&& 3#5 = 0#5 := by decide

/-! ### Masking a word masks its fields -/

theorem wordR_and (op op' : BitVec 6) (rs rs' : BitVec 5) (rt rt' : BitVec 5) (rd rd' : BitVec 5) (sa sa' : BitVec 5) (funct funct' : BitVec 6) :
    wordR op rs rt rd sa funct &&& wordR op' rs' rt' rd' sa' funct' = wordR (op &&& op') (rs &&& rs') (rt &&& rt') (rd &&& rd') (sa &&& sa') (funct &&& funct') := by
  apply BitVec.eq_of_getLsbD_eq
  intro i hi
  simp only [wordR, BitVec.getLsbD_and, BitVec.getLsbD_append]
  repeat' split
  all_goals rfl

theorem wordI_and (op op' : BitVec 6) (rs rs' : BitVec 5) (rt rt' : BitVec 5) (imm imm' : BitVec 16) :
    wordI op rs rt imm &&& wordI op' rs' rt' imm' = wordI (op &&& op') (rs &&& rs') (rt &&& rt') (imm &&& imm') := by
  apply BitVec.eq_of_getLsbD_eq
  intro i hi
  simp only [wordI, BitVec.getLsbD_and, BitVec.getLsbD_append]
  repeat' split
  all_goals rfl

theorem wordJ_and (op op' : BitVec 6) (index index' : BitVec 26) :
    wordJ op index &&& wordJ op' index' = wordJ (op &&& op') (index &&& index') := by
  apply BitVec.eq_of_getLsbD_eq
  intro i hi
  simp only [wordJ, BitVec.getLsbD_and, BitVec.getLsbD_append]
  repeat' split
  all_goals rfl

theorem wordTrap_and (m : BitVec 6) (rs rs' : BitVec 5) (rt rt' : BitVec 5) (code code' : BitVec 10) (funct funct' : BitVec 6) :
    wordTrap rs rt code funct &&& (m ++ rs' ++ rt' ++ code' ++ funct') = wordTrap (rs &&& rs') (rt &&& rt') (code &&& code') (funct &&& funct') := by
  apply BitVec.eq_of_getLsbD_eq
  intro i hi
  simp only [wordTrap, BitVec.getLsbD_and, BitVec.getLsbD_append]
  repeat' split
  all_goals first | rfl | simp

theorem wordCode_and (m : BitVec 6) (code code' : BitVec 20) (funct funct' : BitVec 6) :
    wordCode code funct &&& (m ++ code' ++ funct') = wordCode (code &&& code') (funct &&& funct') := by
  apply BitVec.eq_of_getLsbD_eq
  intro i hi
  simp only [wordCode, BitVec.getLsbD_and, BitVec.getLsbD_append]
  repeat' split
  all_goals first | rfl | simp

/-! ### The rows -/

/-- Two rows that no word selects together: a bit that both fix, one to 0 and the other to 1. -/
def Row.conflicts (a b : Row) : Bool := (a.pattern ^^^ b.pattern) &&& a.mask &&& b.mask != 0

/-- Every two rows of the table conflict, but `nop` and `sll` (30_encoding.md R92). -/
theorem opcodeRows_pairwise :
    opcodeRows.Pairwise fun a b => Row.conflicts a b = true ∨ (a.mnemonic = "nop" ∧ b.mnemonic = "sll") := by
  decide +kernel

/-- A word selects at most one of two rows that conflict. -/
theorem Row.conflicts_not_both {a b : Row} (h : a.conflicts b = true) (w : Word) : ¬(a.selects w = true ∧ b.selects w = true) := by
  rintro ⟨ha, hb⟩
  simp only [Row.selects, beq_iff_eq] at ha hb
  simp only [Row.conflicts, bne_iff_ne, ne_eq] at h
  apply h
  rw [← ha, ← hb]
  apply BitVec.eq_of_getLsbD_eq
  intro i hi
  rw [show BitVec.getLsbD (0 : Word) i = false by simp]
  simp only [BitVec.getLsbD_and, BitVec.getLsbD_xor]
  cases w.getLsbD i <;> cases a.mask.getLsbD i <;> cases b.mask.getLsbD i <;> rfl

end Sys2Proof
end

