-- ==== Sys2Proof/Laws/Memory.lean ====
section
/-! SUPPORT. What the memory operations do: reading after writing, other addresses, the canonical form. -/

namespace Sys2Proof.Machine

/-- An empty memory is canonical. -/
theorem Memory.wf_nil : Memory.wf [] := ⟨List.Pairwise.nil, by simp⟩

/-- The canonical form of a longer list. -/
theorem Memory.wf_cons {c : Host.Cell} {m : Memory} :
    Memory.wf (c :: m) ↔ (∀ d ∈ m, c.1 < d.1) ∧ c.2 ≠ unlistedByte ∧ c.1 < 2 ^ 32 ∧ Memory.wf m := by
  constructor
  · rintro ⟨h1, h2⟩
    obtain ⟨h3, h4⟩ := List.pairwise_cons.mp h1
    exact ⟨h3, (h2 c (by simp)).1, (h2 c (by simp)).2, h4, fun d hd => h2 d (List.mem_cons_of_mem _ hd)⟩
  · rintro ⟨h3, h5, h6, h4, h7⟩
    refine ⟨List.pairwise_cons.mpr ⟨h3, h4⟩, fun d hd => ?_⟩
    rcases List.mem_cons.mp hd with rfl | hd
    · exact ⟨h5, h6⟩
    · exact h7 d hd

/-- An address below every listed one reads as unlisted. -/
theorem Memory.read_below {m : Memory} {a : Nat} (h : ∀ d ∈ m, a < d.1) : m.read a = unlistedByte := by
  induction m with
  | nil => rfl
  | cons c m ih =>
    have hc := h c (by simp)
    simp only [Memory.read]
    rw [if_neg (by omega)]
    exact ih fun d hd => h d (List.mem_cons_of_mem _ hd)

/-- Any other address reads as before a write; this needs no canonical form. -/
theorem Memory.read_write_ne (m : Memory) (a : Nat) (v : Byte) (b : Nat) (h : b ≠ a) : (m.write a v).read b = m.read b := by
  induction m with
  | nil => simp only [Memory.write]; split <;> simp [Memory.read, h]
  | cons c m ih =>
    obtain ⟨d, w⟩ := c
    simp only [Memory.write]
    split
    · split <;> simp [Memory.read, h]
    · split
      · rename_i h2; subst h2
        split <;> simp [Memory.read, h]
      · simp only [Memory.read, ih]

/-- The written address reads as what was written. -/
theorem Memory.read_write_self {m : Memory} (a : Nat) (v : Byte) (h : m.wf) : (m.write a v).read a = v := by
  induction m with
  | nil => simp only [Memory.write]; split <;> simp_all [Memory.read]
  | cons c m ih =>
    obtain ⟨h1, h2, h3, h4⟩ := Memory.wf_cons.mp h
    obtain ⟨d, w⟩ := c
    simp only [Memory.write]
    split
    · rename_i had
      split
      · rename_i hv
        simp only [Memory.read, if_neg (show ¬a = d by omega)]
        rw [hv, Memory.read_below fun e he => Nat.lt_trans had (h1 e he)]
      · simp [Memory.read]
    · split
      · rename_i h5; subst h5
        split
        · rename_i hv; rw [hv, Memory.read_below h1]
        · simp [Memory.read]
      · rename_i h5
        simp only [Memory.read, if_neg h5, ih h4]

/-- Reading one byte after writing one byte. -/
theorem Memory.read_write {m : Memory} (a : Nat) (v : Byte) (b : Nat) (h : m.wf) :
    (m.write a v).read b = if b = a then v else m.read b := by
  by_cases e : b = a
  · rw [if_pos e, e, Memory.read_write_self a v h]
  · rw [if_neg e, Memory.read_write_ne m a v b e]

/-- A write lists no address but its own and those listed before. -/
theorem Memory.mem_write {m : Memory} {a : Nat} {v : Byte} {c : Host.Cell} (h : c ∈ m.write a v) :
    (c = (a, v) ∧ v ≠ unlistedByte) ∨ c ∈ m := by
  induction m with
  | nil =>
    simp only [Memory.write] at h
    split at h
    · simp at h
    · rename_i hv; simp at h; exact .inl ⟨h, hv⟩
  | cons d m ih =>
    obtain ⟨b, w⟩ := d
    simp only [Memory.write] at h
    split at h
    · split at h
      · exact .inr h
      · rename_i hv
        rcases List.mem_cons.mp h with h | h
        · exact .inl ⟨h, hv⟩
        · exact .inr h
    · split at h
      · split at h
        · exact .inr (List.mem_cons_of_mem _ h)
        · rename_i hv
          rcases List.mem_cons.mp h with h | h
          · exact .inl ⟨h, hv⟩
          · exact .inr (List.mem_cons_of_mem _ h)
      · rcases List.mem_cons.mp h with h | h
        · exact .inr (h ▸ List.mem_cons_self ..)
        · rcases ih h with h | h
          · exact .inl h
          · exact .inr (List.mem_cons_of_mem _ h)

/-- A write keeps the canonical form. -/
theorem Memory.write_wf {m : Memory} (a : Nat) (v : Byte) (ha : a < 2 ^ 32) (h : m.wf) : (m.write a v).wf := by
  induction m with
  | nil =>
    simp only [Memory.write]
    split
    · exact Memory.wf_nil
    · rename_i hv; exact Memory.wf_cons.mpr ⟨by simp, hv, ha, Memory.wf_nil⟩
  | cons c m ih =>
    obtain ⟨h1, h2, h3, h4⟩ := Memory.wf_cons.mp h
    obtain ⟨d, w⟩ := c
    simp only [Memory.write]
    split
    · rename_i had
      split
      · exact h
      · rename_i hv
        refine Memory.wf_cons.mpr ⟨fun e he => ?_, hv, ha, h⟩
        rcases List.mem_cons.mp he with rfl | he
        · exact had
        · exact Nat.lt_trans had (h1 e he)
    · rename_i had
      split
      · rename_i h5; subst h5
        split
        · exact h4
        · rename_i hv; exact Memory.wf_cons.mpr ⟨h1, hv, ha, h4⟩
      · rename_i h5
        refine Memory.wf_cons.mpr ⟨fun e he => ?_, h2, h3, ih h4⟩
        rcases Memory.mem_write he with ⟨rfl, -⟩ | he
        · simp only at *; omega
        · exact h1 e he

/-- Two canonical memories that read the same are the same data. -/
theorem Memory.ext_read {m n : Memory} (hm : m.wf) (hn : n.wf) (h : ∀ a, m.read a = n.read a) : m = n := by
  induction m generalizing n with
  | nil =>
    cases n with
    | nil => rfl
    | cons d n =>
      have := h d.1
      simp [Memory.read] at this
      exact absurd this.symm (Memory.wf_cons.mp hn).2.1
  | cons c m ih =>
    obtain ⟨h1, h2, -, h4⟩ := Memory.wf_cons.mp hm
    cases n with
    | nil =>
      have := h c.1
      simp [Memory.read] at this
      exact absurd this h2
    | cons d n =>
      obtain ⟨g1, g2, -, g4⟩ := Memory.wf_cons.mp hn
      have hcd : c.1 = d.1 := by
        rcases Nat.lt_trichotomy c.1 d.1 with hlt | heq | hlt
        · have := h c.1
          simp only [Memory.read, if_pos] at this
          rw [if_neg (by omega), Memory.read_below fun e he => Nat.lt_trans hlt (g1 e he)] at this
          exact absurd this h2
        · exact heq
        · have := h d.1
          simp only [Memory.read, if_pos] at this
          rw [if_neg (by omega), Memory.read_below fun e he => Nat.lt_trans hlt (h1 e he)] at this
          exact absurd this.symm g2
      have hv : c.2 = d.2 := by
        have := h c.1
        simpa [Memory.read, hcd] using this
      have hc : c = d := Prod.ext hcd hv
      subst hc
      congr 1
      refine ih h4 g4 fun a => ?_
      have := h a
      simp only [Memory.read] at this
      by_cases e : a = c.1
      · rw [e, Memory.read_below h1, Memory.read_below g1]
      · simpa [e] using this

/-- Outside the stored bytes a store of several bytes changes nothing; this needs no canonical form. -/
theorem Memory.read_writeBytes_ne (bs : List Byte) (m : Memory) (a b : Nat) (h : b < a ∨ a + bs.length ≤ b) :
    (m.writeBytes a bs).read b = m.read b := by
  induction bs generalizing m a with
  | nil => rfl
  | cons v bs ih =>
    simp only [List.length_cons] at h
    rw [Memory.writeBytes, ih _ _ (by omega), Memory.read_write_ne _ _ _ _ (by omega)]

/-- A store of several bytes keeps the canonical form. -/
theorem Memory.writeBytes_wf (bs : List Byte) {m : Memory} (a : Nat) (ha : a + bs.length ≤ 2 ^ 32) (h : m.wf) :
    (m.writeBytes a bs).wf := by
  induction bs generalizing m a with
  | nil => exact h
  | cons v bs ih =>
    simp only [List.length_cons] at ha
    exact ih (a + 1) (by omega) (Memory.write_wf a v (by omega) h)

/-- Inside the stored bytes a store of several bytes is read back. -/
theorem Memory.read_writeBytes_lt (bs : List Byte) {m : Memory} (a k : Nat) (hk : k < bs.length)
    (ha : a + bs.length ≤ 2 ^ 32) (h : m.wf) : (m.writeBytes a bs).read (a + k) = bs[k] := by
  induction bs generalizing m a k with
  | nil => simp at hk
  | cons v bs ih =>
    simp only [List.length_cons] at ha hk
    have hw : (m.write a v).wf := Memory.write_wf a v (by omega) h
    cases k with
    | zero =>
      rw [Memory.writeBytes, Memory.read_writeBytes_ne _ _ _ _ (by omega)]
      simpa using Memory.read_write_self a v h
    | succ k =>
      rw [Memory.writeBytes, show a + (k + 1) = a + 1 + k by omega, ih (a + 1) k (by omega) (by omega) hw]
      simp

@[simp] theorem bytesOf_length (v : Word) (start n : Nat) : (bytesOf v start n).length = n := by simp [bytesOf]

@[simp] theorem bytesOf_getElem (v : Word) (start n k : Nat) (h : k < (bytesOf v start n).length) :
    (bytesOf v start n)[k] = byteOf v (start + k) := by simp [bytesOf]

/-- A byte as a number. -/
theorem byteOf_toNat (v : Word) (k : Nat) : (byteOf v k).toNat = v.toNat / 2 ^ (8 * k) % 256 := by
  simp [byteOf, BitVec.extractLsb'_toNat, Nat.shiftRight_eq_div_pow]

/-- Two words with the same four bytes are equal. -/
theorem Word.ext_byteOf {v w : Word} (h : ∀ k, k < 4 → byteOf v k = byteOf w k) : v = w := by
  apply BitVec.eq_of_getLsbD_eq
  intro i hi
  have := congrArg (fun b => b.getLsbD (i % 8)) (h (i / 8) (by omega))
  simp only [byteOf, BitVec.getLsbD_extractLsb'] at this
  have e : 8 * (i / 8) + i % 8 = i := by omega
  rw [e] at this
  simpa [show i % 8 < 8 by omega] using this

/-- Byte `k` of a word in memory is the byte at its address plus `k` (20_memory.md R61). -/
theorem byteOf_read32 (m : Memory) (a k : Nat) (h : k < 4) : byteOf (m.read32 a) k = m.read (a + k) := by
  apply BitVec.eq_of_getLsbD_eq
  intro i hi
  simp only [byteOf, Memory.read32, BitVec.getLsbD_extractLsb', BitVec.getLsbD_append]
  interval_cases k <;> simp only [hi, decide_true, Bool.true_and]
  · rw [if_pos (by omega), show 8 * 0 + i = i by omega, Nat.add_zero]
  · rw [if_neg (by omega), if_pos (by omega), show 8 * 1 + i - 8 = i by omega]
  · rw [if_neg (by omega), if_neg (by omega), if_pos (by omega), show 8 * 2 + i - 8 - 8 = i by omega]
  · rw [if_neg (by omega), if_neg (by omega), if_neg (by omega), show 8 * 3 + i - 8 - 8 - 8 = i by omega]

/-- A halfword in memory as a number. -/
theorem Memory.read16_toNat (m : Memory) (a : Nat) :
    (m.read16 a).toNat = (m.read a).toNat + 256 * (m.read (a + 1)).toNat := by
  refine (BitVec.toNat_append (m.read (a + 1)) (m.read a)).trans ?_
  have := Nat.two_pow_add_eq_or_of_lt (m.read a).isLt (m.read (a + 1)).toNat
  rw [Nat.shiftLeft_eq, Nat.mul_comm, ← this]
  omega

/-- What the answer of the environment may write: data memory only. -/
theorem Launch.storeCells_read_ne (l : Launch) (cs : List Host.Cell) (m : Memory) (a : Nat) (h : l.dataWritable a = false) :
    (l.storeCells cs m).read a = m.read a := by
  induction cs generalizing m with
  | nil => rfl
  | cons c cs ih =>
    rw [Launch.storeCells, ih]
    split
    · rename_i hc
      exact Memory.read_write_ne _ _ _ _ fun e => by rw [e, hc] at h; cases h
    · rfl

/-- The answer of the environment keeps the canonical form. -/
theorem Launch.storeCells_wf (l : Launch) (cs : List Host.Cell) {m : Memory} (h : m.wf) : (l.storeCells cs m).wf := by
  induction cs generalizing m with
  | nil => exact h
  | cons c cs ih =>
    rw [Launch.storeCells]
    apply ih
    split
    · rename_i hc
      refine Memory.write_wf _ _ ?_ h
      simp only [Launch.dataWritable, Bool.and_eq_true, decide_eq_true_eq] at hc
      exact hc.1
    · exact h

/-- Admission of a range, byte by byte. -/
theorem Launch.allReadable_iff (l : Launch) (a n : Nat) : l.allReadable a n = true ↔ ∀ k, k < n → l.readable (a + k) = true := by
  simp [Launch.allReadable]

/-- Admission of a range, byte by byte. -/
theorem Launch.allWritable_iff (l : Launch) (a n : Nat) : l.allWritable a n = true ↔ ∀ k, k < n → l.writable (a + k) = true := by
  simp [Launch.allWritable]

/-- Only addresses of the address space are writable. -/
theorem Launch.writable_lt {l : Launch} {a : Nat} (h : l.writable a = true) : a < 2 ^ 32 := by
  simp only [Launch.writable, Launch.dataWritable, Bool.or_eq_true, Bool.and_eq_true, decide_eq_true_eq] at h
  omega

/-- A writable range lies in the address space. -/
theorem Launch.allWritable_le {l : Launch} {a n : Nat} (hn : 0 < n) (h : l.allWritable a n = true) : a + n ≤ 2 ^ 32 := by
  have := Launch.writable_lt ((Launch.allWritable_iff l a n).mp h (n - 1) (by omega))
  omega

end Sys2Proof.Machine
end

