-- ==== Sys2Proof/Laws/State.lean ====
section
/-! SUPPORT. What each update of the state does to each field and to each reading: one lemma per pair, so that no proof unfolds a
record update. -/

namespace Sys2Proof.Machine

/-! ### Fields after an update -/

@[simp] theorem State.setX_gpr (s : State) (i : Reg) (v : Word) : (s.setX i v).gpr = if i = 0 then s.gpr else s.gpr.set i.toNat v i.isLt := rfl
@[simp] theorem State.setX_fpr (s : State) (i : Reg) (v : Word) : (s.setX i v).fpr = s.fpr := rfl
@[simp] theorem State.setX_cc (s : State) (i : Reg) (v : Word) : (s.setX i v).cc = s.cc := rfl
@[simp] theorem State.setX_pc (s : State) (i : Reg) (v : Word) : (s.setX i v).pc = s.pc := rfl
@[simp] theorem State.setX_hi (s : State) (i : Reg) (v : Word) : (s.setX i v).hi = s.hi := rfl
@[simp] theorem State.setX_lo (s : State) (i : Reg) (v : Word) : (s.setX i v).lo = s.lo := rfl
@[simp] theorem State.setX_badVAddr (s : State) (i : Reg) (v : Word) : (s.setX i v).badVAddr = s.badVAddr := rfl
@[simp] theorem State.setX_status (s : State) (i : Reg) (v : Word) : (s.setX i v).status = s.status := rfl
@[simp] theorem State.setX_cause (s : State) (i : Reg) (v : Word) : (s.setX i v).cause = s.cause := rfl
@[simp] theorem State.setX_epc (s : State) (i : Reg) (v : Word) : (s.setX i v).epc = s.epc := rfl
@[simp] theorem State.setX_mem (s : State) (i : Reg) (v : Word) : (s.setX i v).mem = s.mem := rfl
@[simp] theorem State.setX_launch (s : State) (i : Reg) (v : Word) : (s.setX i v).launch = s.launch := rfl
@[simp] theorem State.setX_run (s : State) (i : Reg) (v : Word) : (s.setX i v).run = s.run := rfl
@[simp] theorem State.setX_env (s : State) (i : Reg) (v : Word) : (s.setX i v).env = s.env := rfl
@[simp] theorem State.setX_draws (s : State) (i : Reg) (v : Word) : (s.setX i v).draws = s.draws := rfl

@[simp] theorem State.setF_gpr (s : State) (i : Reg) (v : Word) : (s.setF i v).gpr = s.gpr := rfl
@[simp] theorem State.setF_fpr (s : State) (i : Reg) (v : Word) : (s.setF i v).fpr = s.fpr.set i.toNat v i.isLt := rfl
@[simp] theorem State.setF_cc (s : State) (i : Reg) (v : Word) : (s.setF i v).cc = s.cc := rfl
@[simp] theorem State.setF_pc (s : State) (i : Reg) (v : Word) : (s.setF i v).pc = s.pc := rfl
@[simp] theorem State.setF_hi (s : State) (i : Reg) (v : Word) : (s.setF i v).hi = s.hi := rfl
@[simp] theorem State.setF_lo (s : State) (i : Reg) (v : Word) : (s.setF i v).lo = s.lo := rfl
@[simp] theorem State.setF_badVAddr (s : State) (i : Reg) (v : Word) : (s.setF i v).badVAddr = s.badVAddr := rfl
@[simp] theorem State.setF_status (s : State) (i : Reg) (v : Word) : (s.setF i v).status = s.status := rfl
@[simp] theorem State.setF_cause (s : State) (i : Reg) (v : Word) : (s.setF i v).cause = s.cause := rfl
@[simp] theorem State.setF_epc (s : State) (i : Reg) (v : Word) : (s.setF i v).epc = s.epc := rfl
@[simp] theorem State.setF_mem (s : State) (i : Reg) (v : Word) : (s.setF i v).mem = s.mem := rfl
@[simp] theorem State.setF_launch (s : State) (i : Reg) (v : Word) : (s.setF i v).launch = s.launch := rfl
@[simp] theorem State.setF_run (s : State) (i : Reg) (v : Word) : (s.setF i v).run = s.run := rfl
@[simp] theorem State.setF_env (s : State) (i : Reg) (v : Word) : (s.setF i v).env = s.env := rfl
@[simp] theorem State.setF_draws (s : State) (i : Reg) (v : Word) : (s.setF i v).draws = s.draws := rfl

@[simp] theorem State.setD_gpr (s : State) (i : Reg) (v : DWord) : (s.setD i v).gpr = s.gpr := rfl
@[simp] theorem State.setD_fpr (s : State) (i : Reg) (v : DWord) : (s.setD i v).fpr = ((s.setF i (v.extractLsb' 0 32)).setF (i + 1) (v.extractLsb' 32 32)).fpr := rfl
@[simp] theorem State.setD_cc (s : State) (i : Reg) (v : DWord) : (s.setD i v).cc = s.cc := rfl
@[simp] theorem State.setD_pc (s : State) (i : Reg) (v : DWord) : (s.setD i v).pc = s.pc := rfl
@[simp] theorem State.setD_hi (s : State) (i : Reg) (v : DWord) : (s.setD i v).hi = s.hi := rfl
@[simp] theorem State.setD_lo (s : State) (i : Reg) (v : DWord) : (s.setD i v).lo = s.lo := rfl
@[simp] theorem State.setD_badVAddr (s : State) (i : Reg) (v : DWord) : (s.setD i v).badVAddr = s.badVAddr := rfl
@[simp] theorem State.setD_status (s : State) (i : Reg) (v : DWord) : (s.setD i v).status = s.status := rfl
@[simp] theorem State.setD_cause (s : State) (i : Reg) (v : DWord) : (s.setD i v).cause = s.cause := rfl
@[simp] theorem State.setD_epc (s : State) (i : Reg) (v : DWord) : (s.setD i v).epc = s.epc := rfl
@[simp] theorem State.setD_mem (s : State) (i : Reg) (v : DWord) : (s.setD i v).mem = s.mem := rfl
@[simp] theorem State.setD_launch (s : State) (i : Reg) (v : DWord) : (s.setD i v).launch = s.launch := rfl
@[simp] theorem State.setD_run (s : State) (i : Reg) (v : DWord) : (s.setD i v).run = s.run := rfl
@[simp] theorem State.setD_env (s : State) (i : Reg) (v : DWord) : (s.setD i v).env = s.env := rfl
@[simp] theorem State.setD_draws (s : State) (i : Reg) (v : DWord) : (s.setD i v).draws = s.draws := rfl

@[simp] theorem State.setFlag_gpr (s : State) (k : CondFlag) (b : Bool) : (s.setFlag k b).gpr = s.gpr := rfl
@[simp] theorem State.setFlag_fpr (s : State) (k : CondFlag) (b : Bool) : (s.setFlag k b).fpr = s.fpr := rfl
@[simp] theorem State.setFlag_cc (s : State) (k : CondFlag) (b : Bool) : (s.setFlag k b).cc = s.cc.set k.toNat b k.isLt := rfl
@[simp] theorem State.setFlag_pc (s : State) (k : CondFlag) (b : Bool) : (s.setFlag k b).pc = s.pc := rfl
@[simp] theorem State.setFlag_hi (s : State) (k : CondFlag) (b : Bool) : (s.setFlag k b).hi = s.hi := rfl
@[simp] theorem State.setFlag_lo (s : State) (k : CondFlag) (b : Bool) : (s.setFlag k b).lo = s.lo := rfl
@[simp] theorem State.setFlag_badVAddr (s : State) (k : CondFlag) (b : Bool) : (s.setFlag k b).badVAddr = s.badVAddr := rfl
@[simp] theorem State.setFlag_status (s : State) (k : CondFlag) (b : Bool) : (s.setFlag k b).status = s.status := rfl
@[simp] theorem State.setFlag_cause (s : State) (k : CondFlag) (b : Bool) : (s.setFlag k b).cause = s.cause := rfl
@[simp] theorem State.setFlag_epc (s : State) (k : CondFlag) (b : Bool) : (s.setFlag k b).epc = s.epc := rfl
@[simp] theorem State.setFlag_mem (s : State) (k : CondFlag) (b : Bool) : (s.setFlag k b).mem = s.mem := rfl
@[simp] theorem State.setFlag_launch (s : State) (k : CondFlag) (b : Bool) : (s.setFlag k b).launch = s.launch := rfl
@[simp] theorem State.setFlag_run (s : State) (k : CondFlag) (b : Bool) : (s.setFlag k b).run = s.run := rfl
@[simp] theorem State.setFlag_env (s : State) (k : CondFlag) (b : Bool) : (s.setFlag k b).env = s.env := rfl
@[simp] theorem State.setFlag_draws (s : State) (k : CondFlag) (b : Bool) : (s.setFlag k b).draws = s.draws := rfl

@[simp] theorem State.setHiLo_gpr (s : State) (v : DWord) : (s.setHiLo v).gpr = s.gpr := rfl
@[simp] theorem State.setHiLo_fpr (s : State) (v : DWord) : (s.setHiLo v).fpr = s.fpr := rfl
@[simp] theorem State.setHiLo_cc (s : State) (v : DWord) : (s.setHiLo v).cc = s.cc := rfl
@[simp] theorem State.setHiLo_pc (s : State) (v : DWord) : (s.setHiLo v).pc = s.pc := rfl
@[simp] theorem State.setHiLo_hi (s : State) (v : DWord) : (s.setHiLo v).hi = v.extractLsb' 32 32 := rfl
@[simp] theorem State.setHiLo_lo (s : State) (v : DWord) : (s.setHiLo v).lo = v.extractLsb' 0 32 := rfl
@[simp] theorem State.setHiLo_badVAddr (s : State) (v : DWord) : (s.setHiLo v).badVAddr = s.badVAddr := rfl
@[simp] theorem State.setHiLo_status (s : State) (v : DWord) : (s.setHiLo v).status = s.status := rfl
@[simp] theorem State.setHiLo_cause (s : State) (v : DWord) : (s.setHiLo v).cause = s.cause := rfl
@[simp] theorem State.setHiLo_epc (s : State) (v : DWord) : (s.setHiLo v).epc = s.epc := rfl
@[simp] theorem State.setHiLo_mem (s : State) (v : DWord) : (s.setHiLo v).mem = s.mem := rfl
@[simp] theorem State.setHiLo_launch (s : State) (v : DWord) : (s.setHiLo v).launch = s.launch := rfl
@[simp] theorem State.setHiLo_run (s : State) (v : DWord) : (s.setHiLo v).run = s.run := rfl
@[simp] theorem State.setHiLo_env (s : State) (v : DWord) : (s.setHiLo v).env = s.env := rfl
@[simp] theorem State.setHiLo_draws (s : State) (v : DWord) : (s.setHiLo v).draws = s.draws := rfl

@[simp] theorem State.advance_gpr (s : State) : (s.advance).gpr = s.gpr := rfl
@[simp] theorem State.advance_fpr (s : State) : (s.advance).fpr = s.fpr := rfl
@[simp] theorem State.advance_cc (s : State) : (s.advance).cc = s.cc := rfl
@[simp] theorem State.advance_pc (s : State) : (s.advance).pc = s.pc + 4 := rfl
@[simp] theorem State.advance_hi (s : State) : (s.advance).hi = s.hi := rfl
@[simp] theorem State.advance_lo (s : State) : (s.advance).lo = s.lo := rfl
@[simp] theorem State.advance_badVAddr (s : State) : (s.advance).badVAddr = s.badVAddr := rfl
@[simp] theorem State.advance_status (s : State) : (s.advance).status = s.status := rfl
@[simp] theorem State.advance_cause (s : State) : (s.advance).cause = s.cause := rfl
@[simp] theorem State.advance_epc (s : State) : (s.advance).epc = s.epc := rfl
@[simp] theorem State.advance_mem (s : State) : (s.advance).mem = s.mem := rfl
@[simp] theorem State.advance_launch (s : State) : (s.advance).launch = s.launch := rfl
@[simp] theorem State.advance_run (s : State) : (s.advance).run = s.run := rfl
@[simp] theorem State.advance_env (s : State) : (s.advance).env = s.env := rfl
@[simp] theorem State.advance_draws (s : State) : (s.advance).draws = s.draws := rfl

@[simp] theorem State.jump_gpr (s : State) (t : Word) : (s.jump t).gpr = s.gpr := rfl
@[simp] theorem State.jump_fpr (s : State) (t : Word) : (s.jump t).fpr = s.fpr := rfl
@[simp] theorem State.jump_cc (s : State) (t : Word) : (s.jump t).cc = s.cc := rfl
@[simp] theorem State.jump_pc (s : State) (t : Word) : (s.jump t).pc = t := rfl
@[simp] theorem State.jump_hi (s : State) (t : Word) : (s.jump t).hi = s.hi := rfl
@[simp] theorem State.jump_lo (s : State) (t : Word) : (s.jump t).lo = s.lo := rfl
@[simp] theorem State.jump_badVAddr (s : State) (t : Word) : (s.jump t).badVAddr = s.badVAddr := rfl
@[simp] theorem State.jump_status (s : State) (t : Word) : (s.jump t).status = s.status := rfl
@[simp] theorem State.jump_cause (s : State) (t : Word) : (s.jump t).cause = s.cause := rfl
@[simp] theorem State.jump_epc (s : State) (t : Word) : (s.jump t).epc = s.epc := rfl
@[simp] theorem State.jump_mem (s : State) (t : Word) : (s.jump t).mem = s.mem := rfl
@[simp] theorem State.jump_launch (s : State) (t : Word) : (s.jump t).launch = s.launch := rfl
@[simp] theorem State.jump_run (s : State) (t : Word) : (s.jump t).run = s.run := rfl
@[simp] theorem State.jump_env (s : State) (t : Word) : (s.jump t).env = s.env := rfl
@[simp] theorem State.jump_draws (s : State) (t : Word) : (s.jump t).draws = s.draws := rfl

@[simp] theorem State.branch_gpr (s : State) (c : Bool) (imm : Imm16) : (s.branch c imm).gpr = s.gpr := rfl
@[simp] theorem State.branch_fpr (s : State) (c : Bool) (imm : Imm16) : (s.branch c imm).fpr = s.fpr := rfl
@[simp] theorem State.branch_cc (s : State) (c : Bool) (imm : Imm16) : (s.branch c imm).cc = s.cc := rfl
@[simp] theorem State.branch_pc (s : State) (c : Bool) (imm : Imm16) : (s.branch c imm).pc = if c then branchTarget s.pc imm else s.pc + 4 := rfl
@[simp] theorem State.branch_hi (s : State) (c : Bool) (imm : Imm16) : (s.branch c imm).hi = s.hi := rfl
@[simp] theorem State.branch_lo (s : State) (c : Bool) (imm : Imm16) : (s.branch c imm).lo = s.lo := rfl
@[simp] theorem State.branch_badVAddr (s : State) (c : Bool) (imm : Imm16) : (s.branch c imm).badVAddr = s.badVAddr := rfl
@[simp] theorem State.branch_status (s : State) (c : Bool) (imm : Imm16) : (s.branch c imm).status = s.status := rfl
@[simp] theorem State.branch_cause (s : State) (c : Bool) (imm : Imm16) : (s.branch c imm).cause = s.cause := rfl
@[simp] theorem State.branch_epc (s : State) (c : Bool) (imm : Imm16) : (s.branch c imm).epc = s.epc := rfl
@[simp] theorem State.branch_mem (s : State) (c : Bool) (imm : Imm16) : (s.branch c imm).mem = s.mem := rfl
@[simp] theorem State.branch_launch (s : State) (c : Bool) (imm : Imm16) : (s.branch c imm).launch = s.launch := rfl
@[simp] theorem State.branch_run (s : State) (c : Bool) (imm : Imm16) : (s.branch c imm).run = s.run := rfl
@[simp] theorem State.branch_env (s : State) (c : Bool) (imm : Imm16) : (s.branch c imm).env = s.env := rfl
@[simp] theorem State.branch_draws (s : State) (c : Bool) (imm : Imm16) : (s.branch c imm).draws = s.draws := rfl

@[simp] theorem State.putSingle_gpr (s : State) (i : Reg) (r : Option Word) : (s.putSingle i r).gpr = s.gpr := rfl
@[simp] theorem State.putSingle_cc (s : State) (i : Reg) (r : Option Word) : (s.putSingle i r).cc = s.cc := rfl
@[simp] theorem State.putSingle_pc (s : State) (i : Reg) (r : Option Word) : (s.putSingle i r).pc = s.pc := rfl
@[simp] theorem State.putSingle_hi (s : State) (i : Reg) (r : Option Word) : (s.putSingle i r).hi = s.hi := rfl
@[simp] theorem State.putSingle_lo (s : State) (i : Reg) (r : Option Word) : (s.putSingle i r).lo = s.lo := rfl
@[simp] theorem State.putSingle_badVAddr (s : State) (i : Reg) (r : Option Word) : (s.putSingle i r).badVAddr = s.badVAddr := rfl
@[simp] theorem State.putSingle_status (s : State) (i : Reg) (r : Option Word) : (s.putSingle i r).status = s.status := rfl
@[simp] theorem State.putSingle_cause (s : State) (i : Reg) (r : Option Word) : (s.putSingle i r).cause = s.cause := rfl
@[simp] theorem State.putSingle_epc (s : State) (i : Reg) (r : Option Word) : (s.putSingle i r).epc = s.epc := rfl
@[simp] theorem State.putSingle_mem (s : State) (i : Reg) (r : Option Word) : (s.putSingle i r).mem = s.mem := rfl
@[simp] theorem State.putSingle_launch (s : State) (i : Reg) (r : Option Word) : (s.putSingle i r).launch = s.launch := rfl
@[simp] theorem State.putSingle_run (s : State) (i : Reg) (r : Option Word) : (s.putSingle i r).run = s.run := rfl
@[simp] theorem State.putSingle_env (s : State) (i : Reg) (r : Option Word) : (s.putSingle i r).env = s.env := rfl
@[simp] theorem State.putSingle_draws (s : State) (i : Reg) (r : Option Word) : (s.putSingle i r).draws = if r.isSome then s.draws else s.draws + 1 := rfl

@[simp] theorem State.putDouble_gpr (s : State) (i : Reg) (r : Option DWord) : (s.putDouble i r).gpr = s.gpr := rfl
@[simp] theorem State.putDouble_cc (s : State) (i : Reg) (r : Option DWord) : (s.putDouble i r).cc = s.cc := rfl
@[simp] theorem State.putDouble_pc (s : State) (i : Reg) (r : Option DWord) : (s.putDouble i r).pc = s.pc := rfl
@[simp] theorem State.putDouble_hi (s : State) (i : Reg) (r : Option DWord) : (s.putDouble i r).hi = s.hi := rfl
@[simp] theorem State.putDouble_lo (s : State) (i : Reg) (r : Option DWord) : (s.putDouble i r).lo = s.lo := rfl
@[simp] theorem State.putDouble_badVAddr (s : State) (i : Reg) (r : Option DWord) : (s.putDouble i r).badVAddr = s.badVAddr := rfl
@[simp] theorem State.putDouble_status (s : State) (i : Reg) (r : Option DWord) : (s.putDouble i r).status = s.status := rfl
@[simp] theorem State.putDouble_cause (s : State) (i : Reg) (r : Option DWord) : (s.putDouble i r).cause = s.cause := rfl
@[simp] theorem State.putDouble_epc (s : State) (i : Reg) (r : Option DWord) : (s.putDouble i r).epc = s.epc := rfl
@[simp] theorem State.putDouble_mem (s : State) (i : Reg) (r : Option DWord) : (s.putDouble i r).mem = s.mem := rfl
@[simp] theorem State.putDouble_launch (s : State) (i : Reg) (r : Option DWord) : (s.putDouble i r).launch = s.launch := rfl
@[simp] theorem State.putDouble_run (s : State) (i : Reg) (r : Option DWord) : (s.putDouble i r).run = s.run := rfl
@[simp] theorem State.putDouble_env (s : State) (i : Reg) (r : Option DWord) : (s.putDouble i r).env = s.env := rfl
@[simp] theorem State.putDouble_draws (s : State) (i : Reg) (r : Option DWord) : (s.putDouble i r).draws = if r.isSome then s.draws else s.draws + 1 := rfl

@[simp] theorem State.drawHiLo_gpr (s : State) : (s.drawHiLo).gpr = s.gpr := rfl
@[simp] theorem State.drawHiLo_fpr (s : State) : (s.drawHiLo).fpr = s.fpr := rfl
@[simp] theorem State.drawHiLo_cc (s : State) : (s.drawHiLo).cc = s.cc := rfl
@[simp] theorem State.drawHiLo_pc (s : State) : (s.drawHiLo).pc = s.pc := rfl
@[simp] theorem State.drawHiLo_hi (s : State) : (s.drawHiLo).hi = Config.freeWord s.draws := rfl
@[simp] theorem State.drawHiLo_lo (s : State) : (s.drawHiLo).lo = Config.freeWord (s.draws + 1) := rfl
@[simp] theorem State.drawHiLo_badVAddr (s : State) : (s.drawHiLo).badVAddr = s.badVAddr := rfl
@[simp] theorem State.drawHiLo_status (s : State) : (s.drawHiLo).status = s.status := rfl
@[simp] theorem State.drawHiLo_cause (s : State) : (s.drawHiLo).cause = s.cause := rfl
@[simp] theorem State.drawHiLo_epc (s : State) : (s.drawHiLo).epc = s.epc := rfl
@[simp] theorem State.drawHiLo_mem (s : State) : (s.drawHiLo).mem = s.mem := rfl
@[simp] theorem State.drawHiLo_launch (s : State) : (s.drawHiLo).launch = s.launch := rfl
@[simp] theorem State.drawHiLo_run (s : State) : (s.drawHiLo).run = s.run := rfl
@[simp] theorem State.drawHiLo_env (s : State) : (s.drawHiLo).env = s.env := rfl
@[simp] theorem State.drawHiLo_draws (s : State) : (s.drawHiLo).draws = s.draws + 2 := rfl

@[simp] theorem State.recordException_gpr (s : State) (e : Exc) : (s.recordException e).gpr = s.gpr := rfl
@[simp] theorem State.recordException_fpr (s : State) (e : Exc) : (s.recordException e).fpr = s.fpr := rfl
@[simp] theorem State.recordException_cc (s : State) (e : Exc) : (s.recordException e).cc = s.cc := rfl
@[simp] theorem State.recordException_pc (s : State) (e : Exc) : (s.recordException e).pc = s.pc := rfl
@[simp] theorem State.recordException_hi (s : State) (e : Exc) : (s.recordException e).hi = s.hi := rfl
@[simp] theorem State.recordException_lo (s : State) (e : Exc) : (s.recordException e).lo = s.lo := rfl
@[simp] theorem State.recordException_badVAddr (s : State) (e : Exc) : (s.recordException e).badVAddr = e.badVAddrAfter s.badVAddr := rfl
@[simp] theorem State.recordException_status (s : State) (e : Exc) : (s.recordException e).status = s.status ||| 2 := rfl
@[simp] theorem State.recordException_cause (s : State) (e : Exc) : (s.recordException e).cause = (s.cause &&& 0xFFFFFF83) ||| (e.code <<< 2) := rfl
@[simp] theorem State.recordException_epc (s : State) (e : Exc) : (s.recordException e).epc = s.pc := rfl
@[simp] theorem State.recordException_mem (s : State) (e : Exc) : (s.recordException e).mem = s.mem := rfl
@[simp] theorem State.recordException_launch (s : State) (e : Exc) : (s.recordException e).launch = s.launch := rfl
@[simp] theorem State.recordException_run (s : State) (e : Exc) : (s.recordException e).run = s.run := rfl
@[simp] theorem State.recordException_env (s : State) (e : Exc) : (s.recordException e).env = s.env := rfl
@[simp] theorem State.recordException_draws (s : State) (e : Exc) : (s.recordException e).draws = s.draws := rfl

@[simp] theorem State.returnFromException_gpr (s : State) : (s.returnFromException).gpr = s.gpr := rfl
@[simp] theorem State.returnFromException_fpr (s : State) : (s.returnFromException).fpr = s.fpr := rfl
@[simp] theorem State.returnFromException_cc (s : State) : (s.returnFromException).cc = s.cc := rfl
@[simp] theorem State.returnFromException_pc (s : State) : (s.returnFromException).pc = s.epc := rfl
@[simp] theorem State.returnFromException_hi (s : State) : (s.returnFromException).hi = s.hi := rfl
@[simp] theorem State.returnFromException_lo (s : State) : (s.returnFromException).lo = s.lo := rfl
@[simp] theorem State.returnFromException_badVAddr (s : State) : (s.returnFromException).badVAddr = s.badVAddr := rfl
@[simp] theorem State.returnFromException_status (s : State) : (s.returnFromException).status = s.status &&& 0xFFFFFFFD := rfl
@[simp] theorem State.returnFromException_cause (s : State) : (s.returnFromException).cause = s.cause := rfl
@[simp] theorem State.returnFromException_epc (s : State) : (s.returnFromException).epc = s.epc := rfl
@[simp] theorem State.returnFromException_mem (s : State) : (s.returnFromException).mem = s.mem := rfl
@[simp] theorem State.returnFromException_launch (s : State) : (s.returnFromException).launch = s.launch := rfl
@[simp] theorem State.returnFromException_run (s : State) : (s.returnFromException).run = s.run := rfl
@[simp] theorem State.returnFromException_env (s : State) : (s.returnFromException).env = s.env := rfl
@[simp] theorem State.returnFromException_draws (s : State) : (s.returnFromException).draws = s.draws := rfl

/-! ### Readings that an update leaves alone -/

@[simp] theorem State.f_setX (s : State) (i : Reg) (v : Word) (k : Reg) : ((s.setX i v).f k) = s.f k := rfl
@[simp] theorem State.flag_setX (s : State) (i : Reg) (v : Word) (k : CondFlag) : ((s.setX i v).flag k) = s.flag k := rfl
@[simp] theorem State.exl_setX (s : State) (i : Reg) (v : Word) : ((s.setX i v).exl) = s.exl := rfl
@[simp] theorem State.acc_setX (s : State) (i : Reg) (v : Word) : ((s.setX i v).acc) = s.acc := rfl

@[simp] theorem State.x_setF (s : State) (i : Reg) (v : Word) (k : Reg) : ((s.setF i v).x k) = s.x k := rfl
@[simp] theorem State.flag_setF (s : State) (i : Reg) (v : Word) (k : CondFlag) : ((s.setF i v).flag k) = s.flag k := rfl
@[simp] theorem State.exl_setF (s : State) (i : Reg) (v : Word) : ((s.setF i v).exl) = s.exl := rfl
@[simp] theorem State.acc_setF (s : State) (i : Reg) (v : Word) : ((s.setF i v).acc) = s.acc := rfl

@[simp] theorem State.x_setD (s : State) (i : Reg) (v : DWord) (k : Reg) : ((s.setD i v).x k) = s.x k := rfl
@[simp] theorem State.flag_setD (s : State) (i : Reg) (v : DWord) (k : CondFlag) : ((s.setD i v).flag k) = s.flag k := rfl
@[simp] theorem State.exl_setD (s : State) (i : Reg) (v : DWord) : ((s.setD i v).exl) = s.exl := rfl
@[simp] theorem State.acc_setD (s : State) (i : Reg) (v : DWord) : ((s.setD i v).acc) = s.acc := rfl

@[simp] theorem State.x_setFlag (s : State) (k : CondFlag) (b : Bool) (j : Reg) : ((s.setFlag k b).x j) = s.x j := rfl
@[simp] theorem State.f_setFlag (s : State) (k : CondFlag) (b : Bool) (j : Reg) : ((s.setFlag k b).f j) = s.f j := rfl
@[simp] theorem State.exl_setFlag (s : State) (k : CondFlag) (b : Bool) : ((s.setFlag k b).exl) = s.exl := rfl
@[simp] theorem State.acc_setFlag (s : State) (k : CondFlag) (b : Bool) : ((s.setFlag k b).acc) = s.acc := rfl

@[simp] theorem State.x_setHiLo (s : State) (v : DWord) (k : Reg) : ((s.setHiLo v).x k) = s.x k := rfl
@[simp] theorem State.f_setHiLo (s : State) (v : DWord) (k : Reg) : ((s.setHiLo v).f k) = s.f k := rfl
@[simp] theorem State.flag_setHiLo (s : State) (v : DWord) (k : CondFlag) : ((s.setHiLo v).flag k) = s.flag k := rfl
@[simp] theorem State.exl_setHiLo (s : State) (v : DWord) : ((s.setHiLo v).exl) = s.exl := rfl

@[simp] theorem State.x_advance (s : State) (k : Reg) : ((s.advance).x k) = s.x k := rfl
@[simp] theorem State.f_advance (s : State) (k : Reg) : ((s.advance).f k) = s.f k := rfl
@[simp] theorem State.flag_advance (s : State) (k : CondFlag) : ((s.advance).flag k) = s.flag k := rfl
@[simp] theorem State.exl_advance (s : State) : ((s.advance).exl) = s.exl := rfl
@[simp] theorem State.acc_advance (s : State) : ((s.advance).acc) = s.acc := rfl

@[simp] theorem State.x_jump (s : State) (t : Word) (k : Reg) : ((s.jump t).x k) = s.x k := rfl
@[simp] theorem State.f_jump (s : State) (t : Word) (k : Reg) : ((s.jump t).f k) = s.f k := rfl
@[simp] theorem State.flag_jump (s : State) (t : Word) (k : CondFlag) : ((s.jump t).flag k) = s.flag k := rfl
@[simp] theorem State.exl_jump (s : State) (t : Word) : ((s.jump t).exl) = s.exl := rfl
@[simp] theorem State.acc_jump (s : State) (t : Word) : ((s.jump t).acc) = s.acc := rfl

@[simp] theorem State.x_branch (s : State) (c : Bool) (imm : Imm16) (k : Reg) : ((s.branch c imm).x k) = s.x k := rfl
@[simp] theorem State.f_branch (s : State) (c : Bool) (imm : Imm16) (k : Reg) : ((s.branch c imm).f k) = s.f k := rfl
@[simp] theorem State.flag_branch (s : State) (c : Bool) (imm : Imm16) (k : CondFlag) : ((s.branch c imm).flag k) = s.flag k := rfl
@[simp] theorem State.exl_branch (s : State) (c : Bool) (imm : Imm16) : ((s.branch c imm).exl) = s.exl := rfl
@[simp] theorem State.acc_branch (s : State) (c : Bool) (imm : Imm16) : ((s.branch c imm).acc) = s.acc := rfl

@[simp] theorem State.x_putSingle (s : State) (i : Reg) (r : Option Word) (k : Reg) : ((s.putSingle i r).x k) = s.x k := rfl
@[simp] theorem State.flag_putSingle (s : State) (i : Reg) (r : Option Word) (k : CondFlag) : ((s.putSingle i r).flag k) = s.flag k := rfl
@[simp] theorem State.exl_putSingle (s : State) (i : Reg) (r : Option Word) : ((s.putSingle i r).exl) = s.exl := rfl
@[simp] theorem State.acc_putSingle (s : State) (i : Reg) (r : Option Word) : ((s.putSingle i r).acc) = s.acc := rfl

@[simp] theorem State.x_putDouble (s : State) (i : Reg) (r : Option DWord) (k : Reg) : ((s.putDouble i r).x k) = s.x k := rfl
@[simp] theorem State.flag_putDouble (s : State) (i : Reg) (r : Option DWord) (k : CondFlag) : ((s.putDouble i r).flag k) = s.flag k := rfl
@[simp] theorem State.exl_putDouble (s : State) (i : Reg) (r : Option DWord) : ((s.putDouble i r).exl) = s.exl := rfl
@[simp] theorem State.acc_putDouble (s : State) (i : Reg) (r : Option DWord) : ((s.putDouble i r).acc) = s.acc := rfl

@[simp] theorem State.x_drawHiLo (s : State) (k : Reg) : ((s.drawHiLo).x k) = s.x k := rfl
@[simp] theorem State.f_drawHiLo (s : State) (k : Reg) : ((s.drawHiLo).f k) = s.f k := rfl
@[simp] theorem State.flag_drawHiLo (s : State) (k : CondFlag) : ((s.drawHiLo).flag k) = s.flag k := rfl
@[simp] theorem State.exl_drawHiLo (s : State) : ((s.drawHiLo).exl) = s.exl := rfl

@[simp] theorem State.x_recordException (s : State) (e : Exc) (k : Reg) : ((s.recordException e).x k) = s.x k := rfl
@[simp] theorem State.f_recordException (s : State) (e : Exc) (k : Reg) : ((s.recordException e).f k) = s.f k := rfl
@[simp] theorem State.flag_recordException (s : State) (e : Exc) (k : CondFlag) : ((s.recordException e).flag k) = s.flag k := rfl
@[simp] theorem State.acc_recordException (s : State) (e : Exc) : ((s.recordException e).acc) = s.acc := rfl

@[simp] theorem State.x_returnFromException (s : State) (k : Reg) : ((s.returnFromException).x k) = s.x k := rfl
@[simp] theorem State.f_returnFromException (s : State) (k : Reg) : ((s.returnFromException).f k) = s.f k := rfl
@[simp] theorem State.flag_returnFromException (s : State) (k : CondFlag) : ((s.returnFromException).flag k) = s.flag k := rfl
@[simp] theorem State.acc_returnFromException (s : State) : ((s.returnFromException).acc) = s.acc := rfl

/-! ### Readings after the update they read -/

/-- Register 0 reads 0. -/
@[simp] theorem State.x_zero (s : State) : s.x 0 = 0 := rfl

theorem Reg.toNat_inj {a b : Reg} (h : a.toNat = b.toNat) : a = b := BitVec.eq_of_toNat_eq h

/-- The register file after a write, entry by entry. -/
theorem State.gpr_getElem_setX (s : State) (i : Reg) (v : Word) (n : Nat) (h : n < 32) :
    (s.setX i v).gpr[n] = if n = i.toNat ∧ i ≠ 0 then v else s.gpr[n] := by
  by_cases h0 : i = 0
  · have e : (s.setX i v).gpr = s.gpr := if_pos h0
    rw [if_neg (fun c => c.2 h0)]
    exact congrArg (fun g : Vector Word 32 => g[n]) e
  · have e : (s.setX i v).gpr = s.gpr.set i.toNat v i.isLt := if_neg h0
    refine (congrArg (fun g : Vector Word 32 => g[n]) e).trans ((Vector.getElem_set _ _).trans ?_)
    by_cases c : i.toNat = n
    · rw [if_pos c, if_pos ⟨c.symm, h0⟩]
    · rw [if_neg c, if_neg (fun d => c d.1.symm)]

/-- A write to a general register is read back there, register 0 apart, and nowhere else. -/
theorem State.x_setX (s : State) (i : Reg) (v : Word) (k : Reg) :
    (s.setX i v).x k = if k = i ∧ k ≠ 0 then v else s.x k := by
  unfold State.x
  rw [State.gpr_getElem_setX]
  by_cases hk : k = 0
  · rw [if_pos hk, if_neg (fun h => h.2 hk), if_pos hk]
  · rw [if_neg hk, if_neg hk]
    by_cases hi : k = i
    · subst hi; rw [if_pos ⟨rfl, hk⟩, if_pos ⟨rfl, hk⟩]
    · rw [if_neg (fun h => hi (BitVec.eq_of_toNat_eq h.1)), if_neg (fun h => hi h.1)]

/-- A write to a coprocessor 1 register is read back there and nowhere else. -/
theorem State.f_setF (s : State) (i : Reg) (v : Word) (k : Reg) : (s.setF i v).f k = if k = i then v else s.f k := by
  by_cases hi : k = i
  · subst hi; simp [State.f, State.setF]
  · have : i.toNat ≠ k.toNat := fun h => hi (BitVec.eq_of_toNat_eq h.symm)
    simp [State.f, State.setF, hi, this]

/-- A register is not the next one. -/
theorem Reg.succ_ne (i : Reg) : i + 1 ≠ i := by
  intro h; have := congrArg BitVec.toNat h; have hb := i.isLt; simp [BitVec.toNat_add] at this; omega

/-- A write to a pair is read back in its two registers and nowhere else. -/
theorem State.f_setD (s : State) (i : Reg) (v : DWord) (k : Reg) :
    (s.setD i v).f k =
      if k = i then v.extractLsb' 0 32 else if k = i + 1 then v.extractLsb' 32 32 else s.f k := by
  unfold State.setD
  rw [State.f_setF, State.f_setF]
  by_cases h1 : k = i
  · subst h1; simp
  · simp [h1]

/-- A write to a flag is read back there and nowhere else. -/
theorem State.flag_setFlag (s : State) (k : CondFlag) (b : Bool) (j : CondFlag) :
    (s.setFlag k b).flag j = if j = k then b else s.flag j := by
  by_cases h : j = k
  · subst h; simp [State.flag, State.setFlag]
  · have : k.toNat ≠ j.toNat := fun e => h (BitVec.eq_of_toNat_eq e.symm)
    simp [State.flag, State.setFlag, h, this]

theorem State.f_putSingle (s : State) (i : Reg) (r : Option Word) (k : Reg) :
    (s.putSingle i r).f k = if k = i then r.getD (nan32Of (Config.freeSingle s.draws)) else s.f k := by
  rw [← State.f_setF]; rfl

theorem State.f_putDouble (s : State) (i : Reg) (r : Option DWord) (k : Reg) :
    (s.putDouble i r).f k = (s.setD i (r.getD (nan64Of (Config.freeDouble s.draws)))).f k := rfl

/-- Entry 0 of the register file is not written. -/
theorem State.setX_gpr_zero (s : State) (i : Reg) (v : Word) : (s.setX i v).gpr[0] = s.gpr[0] := by
  rw [State.gpr_getElem_setX, if_neg]
  rintro ⟨h, h0⟩
  exact h0 (BitVec.eq_of_toNat_eq h.symm)

/-- A doubleword is its two halves. -/
theorem DWord.halves (v : DWord) : v.extractLsb' 32 32 ++ v.extractLsb' 0 32 = v := by
  rw [BitVec.extractLsb'_append_extractLsb'_eq_extractLsb' (by rfl)]
  simp

/-- The two halves of an accumulator write. -/
@[simp] theorem State.acc_setHiLo (s : State) (v : DWord) : (s.setHiLo v).acc = v := DWord.halves v

/-- The two halves of a pair write. -/
theorem State.d_setD (s : State) (i : Reg) (v : DWord) : (s.setD i v).d i = v := by
  unfold State.d
  rw [State.f_setD, State.f_setD, if_neg (Reg.succ_ne i), if_pos rfl, if_pos rfl]
  exact DWord.halves v

end Sys2Proof.Machine
end

