-- ==== Sys2Proof/Laws/Env.lean ====
section
/-! SUPPORT. What a call of the environment can do (44_trap_system.md R237): which services are defined, which answer a call gets,
and that a defined service stays defined. -/

namespace Sys2Proof.Machine

/-- A number that no service has is not defined. -/
theorem envCall_eq_none_iff (es : List EnvService) (n : Word) : envCall es n = none ↔ ∀ e ∈ es, e.number ≠ n := by
  induction es with
  | nil => simp [envCall]
  | cons e es ih =>
    by_cases h : e.number = n
    · rw [envCall, if_pos h]
      cases e.script <;> simp [h]
    · rw [envCall, if_neg h, Option.map_eq_none_iff, ih]
      simp [h]

/-- Everything a call of a defined service can answer: the first service of that number gives the answer, and the numbers that are
defined are the same after it. -/
theorem envCall_of_find {es : List EnvService} {n : Word} {e : EnvService} (h : es.find? (fun e => e.number = n) = some e) :
    ∃ r, envCall es n = some r ∧ r.1 = (match e.script with | a :: _ => some a | [] => e.always) ∧
      r.2.map EnvService.number = es.map EnvService.number ∧
      r.2.find? (fun e => e.number = n) = some { e with script := e.script.tail } := by
  induction es with
  | nil => simp at h
  | cons c es ih =>
    by_cases hc : c.number = n
    · rw [List.find?_cons_of_pos (by simpa using hc)] at h
      cases h
      rw [envCall, if_pos hc]
      cases hs : e.script with
      | nil =>
        refine ⟨_, rfl, rfl, rfl, ?_⟩
        rw [List.find?_cons_of_pos (by simpa using hc)]
        cases e; simp_all
      | cons a as =>
        refine ⟨_, rfl, rfl, rfl, ?_⟩
        rw [List.find?_cons_of_pos (by simpa using hc)]
        rfl
    · rw [List.find?_cons_of_neg (by simpa using hc)] at h
      obtain ⟨r, hr, h1, h2, h3⟩ := ih h
      refine ⟨(r.1, c :: r.2), ?_, h1, ?_, ?_⟩
      · rw [envCall, if_neg hc, hr]; rfl
      · rw [List.map_cons, List.map_cons, h2]
      · rw [List.find?_cons_of_neg (by simpa using hc)]; exact h3

/-- A service that is not defined. -/
theorem State.serve_eq_none_iff (s : State) : s.serve = none ↔ ∀ e ∈ s.env, e.number ≠ s.x 2 := by
  rw [State.serve, Option.map_eq_none_iff, envCall_eq_none_iff]

/-- Everything a served call can do: an answer is applied, and only the services and the count of free values differ before it. -/
theorem State.serve_some {s t : State} (h : s.serve = some t) :
    ∃ a es d, t = { s with env := es, draws := d }.applyAnswer a := by
  obtain ⟨r, -, rfl⟩ := Option.map_eq_some_iff.mp h
  exact ⟨_, _, _, rfl⟩

/-- What an answer of the environment leaves in a byte of data memory: the last value it writes there. -/
theorem Launch.read_storeCells (l : Launch) (cs : List Host.Cell) {m : Memory} (h : m.wf) (a : Nat)
    (ha : l.dataWritable a = true) :
    (l.storeCells cs m).read a = ((cs.filter fun c => c.1 = a).getLast?.map Prod.snd).getD (m.read a) := by
  induction cs generalizing m with
  | nil => rfl
  | cons c cs ih =>
    have lt : a < 2 ^ 32 := Launch.writable_lt (l := l) (by simp [Launch.writable, ha])
    rw [Launch.storeCells]
    by_cases hc : c.1 = a
    · subst hc
      rw [if_pos ha, ih (Memory.write_wf _ _ lt h), Memory.read_write_self _ _ h,
        List.filter_cons_of_pos (by simp), List.getLast?_cons]
      cases (cs.filter fun d => d.1 = c.1).getLast? <;> rfl
    · rw [List.filter_cons_of_neg (by simpa using hc)]
      by_cases hw : l.dataWritable c.1 = true
      · have lt' : c.1 < 2 ^ 32 := Launch.writable_lt (l := l) (by simp [Launch.writable, hw])
        rw [if_pos hw, ih (Memory.write_wf _ _ lt' h), Memory.read_write_ne _ _ _ _ (Ne.symm hc)]
      · rw [if_neg hw, ih h]

end Sys2Proof.Machine
end

