-- ==== Sys2Proof/Laws/Fp.lean ====
section
/-! SUPPORT. When a pattern is a NaN, and that every free NaN is one (45_fp_arithmetic.md R260, R263). -/

namespace Sys2Proof.Machine

/-- A pattern decodes to NaN exactly when its exponent field is all ones and its fraction is not 0. -/
theorem FpFormat.decode_eq_nan_iff (f : FpFormat) (bits : Nat) :
    f.decode bits = .nan ↔ bits / 2 ^ f.fracBits % 2 ^ f.expBits = f.maxField ∧ bits % 2 ^ f.fracBits ≠ 0 := by
  simp only [FpFormat.decode]
  split_ifs <;> simp_all

/-- A single-precision NaN, by its fields. -/
theorem isNan32_iff (v : Word) : isNan32 v = true ↔ v.extractLsb' 23 8 = 0xFF ∧ v.extractLsb' 0 23 ≠ 0 := by
  rw [isNan32, beq_iff_eq, b32, FpFormat.decode_eq_nan_iff, ← BitVec.toNat_inj, ← BitVec.toNat_ne_iff_ne]
  simp [single, FpFormat.maxField, BitVec.extractLsb'_toNat, Nat.shiftRight_eq_div_pow]

/-- A double-precision NaN, by its fields. -/
theorem isNan64_iff (v : DWord) : isNan64 v = true ↔ v.extractLsb' 52 11 = 0x7FF ∧ v.extractLsb' 0 52 ≠ 0 := by
  rw [isNan64, beq_iff_eq, b64, FpFormat.decode_eq_nan_iff, ← BitVec.toNat_inj, ← BitVec.toNat_ne_iff_ne]
  simp [double, FpFormat.maxField, BitVec.extractLsb'_toNat, Nat.shiftRight_eq_div_pow]

/-- Every free single-precision NaN is a NaN. -/
theorem isNan32_nan32Of (raw : Word) : isNan32 (nan32Of raw) = true := by
  rw [isNan32_iff, nan32Of]
  constructor
  · ext i hi
    interval_cases i <;> simp
  · intro h
    have b (k : Nat) (hk : k < 23) := congrArg (fun b : BitVec 23 => b.getLsbD k) h
    simp only [BitVec.getLsbD_extractLsb', BitVec.getLsbD_or, Nat.zero_add] at b
    split at b
    · simpa using b 0 (by omega)
    · rename_i c
      apply c
      ext i hi
      simp only [BitVec.getElem_and]
      by_cases hk : i < 23
      · have := b i hk
        simp [hk] at this
        simp [← BitVec.getLsbD_eq_getElem, this.1]
      · interval_cases i <;> simp_all

/-- Every free double-precision NaN is a NaN. -/
theorem isNan64_nan64Of (raw : DWord) : isNan64 (nan64Of raw) = true := by
  rw [isNan64_iff, nan64Of]
  constructor
  · ext i hi
    interval_cases i <;> simp
  · intro h
    have b (k : Nat) (hk : k < 52) := congrArg (fun b : BitVec 52 => b.getLsbD k) h
    simp only [BitVec.getLsbD_extractLsb', BitVec.getLsbD_or, Nat.zero_add] at b
    split at b
    · simpa using b 0 (by omega)
    · rename_i c
      apply c
      ext i hi
      simp only [BitVec.getElem_and]
      by_cases hk : i < 52
      · have := b i hk
        simp [hk] at this
        simp [← BitVec.getLsbD_eq_getElem, this.1]
      · interval_cases i <;> simp_all

end Sys2Proof.Machine
end

