-- ==== Sys2Proof/Laws/Load.lean ====
section
/-! SUPPORT. What the loader leaves (70_reset_and_hazards.md R381): the program's words where they are fetched, memory in its
canonical form, and every register as the parameter RESET has it. -/

namespace Sys2Proof.Machine

/-! ### The launch, field by field -/

@[simp] theorem Program.launchState_mem (p : Program) (r : State) : (p.launchState r).mem = p.memory := rfl
@[simp] theorem Program.launchState_launch (p : Program) (r : State) : (p.launchState r).launch = p.launch := rfl
@[simp] theorem Program.launchState_run (p : Program) (r : State) : (p.launchState r).run = .running := rfl
@[simp] theorem Program.launchState_gpr (p : Program) (r : State) : (p.launchState r).gpr = r.gpr := rfl
@[simp] theorem Program.launchState_fpr (p : Program) (r : State) : (p.launchState r).fpr = r.fpr := rfl
@[simp] theorem Program.launchState_cc (p : Program) (r : State) : (p.launchState r).cc = r.cc := rfl
@[simp] theorem Program.launchState_pc (p : Program) (r : State) : (p.launchState r).pc = r.pc := rfl
@[simp] theorem Program.launchState_hi (p : Program) (r : State) : (p.launchState r).hi = r.hi := rfl
@[simp] theorem Program.launchState_lo (p : Program) (r : State) : (p.launchState r).lo = r.lo := rfl
@[simp] theorem Program.launchState_badVAddr (p : Program) (r : State) : (p.launchState r).badVAddr = r.badVAddr := rfl
@[simp] theorem Program.launchState_status (p : Program) (r : State) : (p.launchState r).status = r.status := rfl
@[simp] theorem Program.launchState_cause (p : Program) (r : State) : (p.launchState r).cause = r.cause := rfl
@[simp] theorem Program.launchState_epc (p : Program) (r : State) : (p.launchState r).epc = r.epc := rfl
@[simp] theorem Program.launchState_env (p : Program) (r : State) : (p.launchState r).env = r.env := rfl
@[simp] theorem Program.launchState_draws (p : Program) (r : State) : (p.launchState r).draws = r.draws := rfl

/-! ### Words in memory -/

/-- Placing words one after the other. -/
theorem Memory.placeWords_cons (m : Memory) (a : Nat) (w : Word) (ws : List Word) :
    m.placeWords a (w :: ws) = (m.writeBytes a (bytesOfWord w)).placeWords (a + 4) ws := rfl

/-- Placing words keeps the canonical form. -/
theorem Memory.placeWords_wf (ws : List Word) {m : Memory} (a : Nat) (ha : a + 4 * ws.length ≤ 2 ^ 32) (h : m.wf) :
    (m.placeWords a ws).wf := by
  induction ws generalizing m a with
  | nil => exact h
  | cons w ws ih =>
    simp only [List.length_cons] at ha
    rw [Memory.placeWords_cons]
    exact ih (a + 4) (by omega) (Memory.writeBytes_wf _ a (by simp [bytesOfWord]; omega) h)

/-- Outside the placed words nothing changes. -/
theorem Memory.read_placeWords_ne (ws : List Word) (m : Memory) (a b : Nat) (h : b < a ∨ a + 4 * ws.length ≤ b) :
    (m.placeWords a ws).read b = m.read b := by
  induction ws generalizing m a with
  | nil => rfl
  | cons w ws ih =>
    simp only [List.length_cons] at h
    rw [Memory.placeWords_cons, ih _ _ (by omega), Memory.read_writeBytes_ne _ _ _ _ (by simp [bytesOfWord]; omega)]

/-- A placed word is read back byte by byte, low-order byte first (20_memory.md R62). -/
theorem Memory.read_placeWords (ws : List Word) {m : Memory} (a k j : Nat) (hk : k < ws.length) (hj : j < 4)
    (ha : a + 4 * ws.length ≤ 2 ^ 32) (h : m.wf) : (m.placeWords a ws).read (a + 4 * k + j) = byteOf ws[k] j := by
  induction ws generalizing m a k with
  | nil => simp at hk
  | cons w ws ih =>
    simp only [List.length_cons] at ha hk
    rw [Memory.placeWords_cons]
    cases k with
    | zero =>
      rw [Memory.read_placeWords_ne _ _ _ _ (by omega), Nat.mul_zero, Nat.add_zero,
        Memory.read_writeBytes_lt _ a j (by simp [bytesOfWord]; omega) (by simp [bytesOfWord]; omega) h]
      interval_cases j <;> rfl
    | succ k =>
      rw [show a + 4 * (k + 1) + j = a + 4 + 4 * k + j by omega,
        ih (a + 4) k (by omega) (by omega) (Memory.writeBytes_wf _ a (by simp [bytesOfWord]; omega) h)]
      rfl

/-- A placed word is read back. -/
theorem Memory.read32_placeWords (ws : List Word) {m : Memory} (a k : Nat) (hk : k < ws.length)
    (ha : a + 4 * ws.length ≤ 2 ^ 32) (h : m.wf) : (m.placeWords a ws).read32 (a + 4 * k) = ws[k] :=
  Word.ext_byteOf fun j hj => by rw [byteOf_read32 _ _ _ hj, Memory.read_placeWords ws a k j hk hj ha h]

/-! ### The launch memory -/

/-- A program's words, and its handler's, lie in the address space. -/
def Program.fits (p : Program) : Prop :=
  p.base.toNat + 4 * p.words.length ≤ 2 ^ 32 ∧ ∀ h ∈ p.handler, h.base.toNat + 4 * h.words.length ≤ 2 ^ 32

/-- The launch memory is in canonical form. -/
theorem Program.memory_wf {p : Program} (h : p.fits) : p.memory.wf := by
  have hp := Launch.storeCells_wf p.launch p.data (Memory.placeWords_wf p.words p.base.toNat h.1 Memory.wf_nil)
  unfold Program.memory
  cases e : p.handler with
  | none => exact hp
  | some d => exact Memory.placeWords_wf d.words _ (h.2 d e) hp

/-- The invariant holds at every launch. -/
theorem Program.launchState_inv {p : Program} {r : State} (h : p.fits) (hr : r.gpr[0] = 0) : (p.launchState r).Inv :=
  ⟨Program.memory_wf h, hr⟩

end Sys2Proof.Machine
end

