-- ==== Sys2Proof/Laws/Ops.lean ====
section
/-! SUPPORT. One lemma per shared operation that says everything it can do; the provers cite these and unfold no operation. -/

namespace Sys2Proof.Machine

/-! ### Taking an exception -/

/-- While EXL is 1 an exception is refused. -/
theorem raise_of_exl {e : Exc} {s : State} (h : s.exl = true) : raise e s = .fault (.nestedException e) := by
  simp [raise, h]

/-- With EXL 0 and a handler, control goes to the handler. -/
theorem raise_of_handler {e : Exc} {s : State} {a : Word} (h : s.exl = false) (ha : s.launch.excHandler = some a) :
    raise e s = .next ((s.recordException e).jump a) := by
  simp [raise, h, ha]

/-- With EXL 0 and no handler, the run ends. -/
theorem raise_of_none {e : Exc} {s : State} (h : s.exl = false) (ha : s.launch.excHandler = none) :
    raise e s = .next { s.recordException e with run := .ended (.unhandledException e) } := by
  simp [raise, h, ha]

/-- Everything an exception can answer as a next state. -/
theorem raise_next {e : Exc} {s t : State} (h : raise e s = .next t) :
    s.exl = false ∧ ((∃ a, s.launch.excHandler = some a ∧ t = (s.recordException e).jump a) ∨
      (s.launch.excHandler = none ∧ t = { s.recordException e with run := .ended (.unhandledException e) })) := by
  unfold raise at h
  split at h
  · cases h
  · rename_i hx
    split at h
    · rename_i a ha; cases h; exact ⟨by simpa using hx, .inl ⟨a, ha, rfl⟩⟩
    · rename_i ha; cases h; exact ⟨by simpa using hx, .inr ⟨ha, rfl⟩⟩

/-- The fields that no exception changes. -/
theorem raise_frame {e : Exc} {s t : State} (h : raise e s = .next t) :
    t.gpr = s.gpr ∧ t.fpr = s.fpr ∧ t.cc = s.cc ∧ t.hi = s.hi ∧ t.lo = s.lo ∧ t.mem = s.mem ∧ t.launch = s.launch ∧
      t.env = s.env ∧ t.draws = s.draws := by
  obtain ⟨-, ⟨a, -, rfl⟩ | ⟨-, rfl⟩⟩ := raise_next h <;> exact ⟨rfl, rfl, rfl, rfl, rfl, rfl, rfl, rfl, rfl⟩

/-- A conditional trap whose condition does not hold only advances. -/
theorem trapIf_false {c : Bool} {s : State} (h : c = false) : trapIf c s = .next s.advance := by simp [trapIf, h]

/-- A conditional trap whose condition holds raises. -/
theorem trapIf_true {c : Bool} {s : State} (h : c = true) : trapIf c s = raise .trap s := by simp [trapIf, h]

/-- Everything a conditional trap can answer as a next state. -/
theorem trapIf_next {c : Bool} {s t : State} (h : trapIf c s = .next t) :
    (c = false ∧ t = s.advance) ∨ (c = true ∧ raise .trap s = .next t) := by
  cases c
  · exact .inl ⟨rfl, by simpa [trapIf] using h.symm⟩
  · exact .inr ⟨rfl, by simpa [trapIf] using h⟩

/-! ### Double-precision positions -/

/-- With every number even the instruction goes on. -/
theorem withEven_of_even {regs : List Reg} {k : Result} (h : ∀ r ∈ regs, isEven r = true) : withEven regs k = k := by
  simp [withEven, List.all_eq_true.mpr h]

/-- With an odd number it is refused. -/
theorem withEven_of_odd {regs : List Reg} {k : Result} {r : Reg} (hr : r ∈ regs) (h : isEven r = false) :
    withEven regs k = .fault .oddDoubleRegister := by
  have : regs.all isEven = false := by
    rw [Bool.eq_false_iff]; intro c; rw [List.all_eq_true.mp c r hr] at h; cases h
  simp [withEven, this]

/-- Everything it can answer as a next state. -/
theorem withEven_next {regs : List Reg} {k : Result} {t : State} (h : withEven regs k = .next t) :
    (∀ r ∈ regs, isEven r = true) ∧ k = .next t := by
  unfold withEven at h
  split at h
  · rename_i c; exact ⟨List.all_eq_true.mp c, h⟩
  · cases h

/-! ### Loads and stores -/

/-- An admitted load. -/
theorem loadAt_of_ok {s t : State} {ea : Word} {width first n : Nat} (h1 : ea.toNat % width = 0)
    (h2 : s.launch.allReadable first n = true) : loadAt s ea width first n t = .next t := by
  simp [loadAt, h1, h2]

/-- A load that is misaligned or not admitted. -/
theorem loadAt_of_bad {s t : State} {ea : Word} {width first n : Nat}
    (h : ea.toNat % width ≠ 0 ∨ s.launch.allReadable first n = false) :
    loadAt s ea width first n t = raise (.addressErrorLoad ea) s := by
  rcases h with h | h <;> simp [loadAt, h]

/-- Everything a load can answer as a next state. -/
theorem loadAt_next {s t u : State} {ea : Word} {width first n : Nat} (h : loadAt s ea width first n t = .next u) :
    (ea.toNat % width = 0 ∧ s.launch.allReadable first n = true ∧ u = t) ∨ raise (.addressErrorLoad ea) s = .next u := by
  unfold loadAt at h
  split at h
  · rename_i c; cases h; exact .inl ⟨c.1, c.2, rfl⟩
  · exact .inr h

/-- An admitted store. -/
theorem storeAt_of_ok {s : State} {ea : Word} {width first : Nat} {bs : List Byte} {after : State → State}
    (h1 : ea.toNat % width = 0) (h2 : s.launch.allWritable first bs.length = true) :
    storeAt s ea width first bs after = .next (after { s with mem := s.mem.writeBytes first bs }) := by
  simp [storeAt, h1, h2]

/-- A store that is misaligned or not admitted. -/
theorem storeAt_of_bad {s : State} {ea : Word} {width first : Nat} {bs : List Byte} {after : State → State}
    (h : ea.toNat % width ≠ 0 ∨ s.launch.allWritable first bs.length = false) :
    storeAt s ea width first bs after = raise (.addressErrorStore ea) s := by
  rcases h with h | h <;> simp [storeAt, h]

/-- Everything a store can answer as a next state. -/
theorem storeAt_next {s u : State} {ea : Word} {width first : Nat} {bs : List Byte} {after : State → State}
    (h : storeAt s ea width first bs after = .next u) :
    (ea.toNat % width = 0 ∧ s.launch.allWritable first bs.length = true ∧
      u = after { s with mem := s.mem.writeBytes first bs }) ∨ raise (.addressErrorStore ea) s = .next u := by
  unfold storeAt at h
  split at h
  · rename_i c; cases h; exact .inl ⟨c.1, c.2, rfl⟩
  · exact .inr h

/-! ### Coprocessor 0 -/

/-- The registers there are. -/
theorem State.setC0_some {s t : State} {n : Reg} {v : Word} (h : s.setC0 n v = some t) :
    (n = 8 ∧ t = { s with badVAddr := v }) ∨ (n = 12 ∧ t = { s with status := v }) ∨
      (n = 13 ∧ t = { s with cause := v }) ∨ (n = 14 ∧ t = { s with epc := v }) := by
  unfold State.setC0 at h
  split at h
  · cases h; exact .inl ⟨by assumption, rfl⟩
  · split at h
    · cases h; exact .inr (.inl ⟨by assumption, rfl⟩)
    · split at h
      · cases h; exact .inr (.inr (.inl ⟨by assumption, rfl⟩))
      · split at h
        · cases h; exact .inr (.inr (.inr ⟨by assumption, rfl⟩))
        · cases h

/-! ### The environment -/

/-- The fields that no answer of the environment changes. -/
theorem State.applyAnswer_frame (s : State) (a : EnvAnswer) :
    (s.applyAnswer a).hi = s.hi ∧ (s.applyAnswer a).lo = s.lo ∧ (s.applyAnswer a).cc = s.cc ∧
      (s.applyAnswer a).badVAddr = s.badVAddr ∧ (s.applyAnswer a).status = s.status ∧ (s.applyAnswer a).cause = s.cause ∧
      (s.applyAnswer a).epc = s.epc ∧ (s.applyAnswer a).launch = s.launch ∧ (s.applyAnswer a).env = s.env ∧
      (s.applyAnswer a).draws = s.draws := by
  unfold State.applyAnswer
  split <;> exact ⟨rfl, rfl, rfl, rfl, rfl, rfl, rfl, rfl, rfl, rfl⟩

/-- The general registers after an answer of the environment. -/
theorem State.applyAnswer_x (s : State) (a : EnvAnswer) (k : Reg) :
    (s.applyAnswer a).x k =
      if k = 5 then a.a1.getD (s.x 5) else if k = 4 then a.a0.getD (s.x 4) else if k = 2 then a.v0.getD (s.x 2)
      else s.x k := by
  have h : (s.applyAnswer a).x k =
      (((s.setX 2 (a.v0.getD (s.x 2))).setX 4 (a.a0.getD (s.x 4))).setX 5 (a.a1.getD (s.x 5))).x k := by
    unfold State.applyAnswer; split <;> rfl
  rw [h, State.x_setX, State.x_setX, State.x_setX]
  by_cases h5 : k = 5
  · subst h5; rw [if_pos ⟨rfl, by decide⟩, if_pos rfl]
  · rw [if_neg (fun c => h5 c.1), if_neg h5]
    by_cases h4 : k = 4
    · subst h4; rw [if_pos ⟨rfl, by decide⟩, if_pos rfl]
    · rw [if_neg (fun c => h4 c.1), if_neg h4]
      by_cases h2 : k = 2
      · subst h2; rw [if_pos ⟨rfl, by decide⟩, if_pos rfl]
      · rw [if_neg (fun c => h2 c.1), if_neg h2]

/-- The coprocessor 1 registers after an answer of the environment. -/
theorem State.applyAnswer_f (s : State) (a : EnvAnswer) (k : Reg) :
    (s.applyAnswer a).f k =
      if k = 1 then a.f1.getD (s.f 1) else if k = 0 then a.f0.getD (s.f 0) else s.f k := by
  have h : (s.applyAnswer a).f k = ((s.setF 0 (a.f0.getD (s.f 0))).setF 1 (a.f1.getD (s.f 1))).f k := by
    unfold State.applyAnswer; split <;> rfl
  rw [h, State.f_setF, State.f_setF]

/-- Memory after an answer of the environment. -/
theorem State.applyAnswer_mem (s : State) (a : EnvAnswer) : (s.applyAnswer a).mem = s.launch.storeCells a.stores s.mem := by
  unfold State.applyAnswer; split <;> rfl

/-- Entry 0 of the register file after an answer of the environment. -/
theorem State.applyAnswer_gpr_zero (s : State) (a : EnvAnswer) : (s.applyAnswer a).gpr[0] = s.gpr[0] := by
  have h : (s.applyAnswer a).gpr =
      (((s.setX 2 (a.v0.getD (s.x 2))).setX 4 (a.a0.getD (s.x 4))).setX 5 (a.a1.getD (s.x 5))).gpr := by
    unfold State.applyAnswer; split <;> rfl
  refine (congrArg (fun g : Vector Word 32 => g[0]) h).trans ?_
  rw [State.setX_gpr_zero, State.setX_gpr_zero, State.setX_gpr_zero]

/-! ### Fetch and step -/

/-- The checks of a fetch pass and the bytes at pc decode. -/
theorem fetch_of_ok {s : State} {i : Instr} {rest : List Byte} (h1 : s.run = .running) (h2 : s.pc ≠ s.launch.endPc)
    (h3 : s.pc.toNat % 4 = 0) (h4 : s.launch.isText s.pc.toNat = true) (h5 : decode s.fetchBytes = .ok (i, rest)) :
    fetch s = .ok i := by
  simp [fetch, h1, h2, h3, h4, h5]

/-- Everything a successful fetch says. -/
theorem fetch_ok {s : State} {i : Instr} (h : fetch s = .ok i) :
    s.run = .running ∧ s.pc ≠ s.launch.endPc ∧ s.pc.toNat % 4 = 0 ∧ s.launch.isText s.pc.toNat = true ∧
      ∃ rest, decode s.fetchBytes = .ok (i, rest) := by
  unfold fetch at h
  split at h
  · cases h
  · rename_i h1
    split at h
    · cases h
    · rename_i h2
      split at h
      · cases h
      · rename_i h3
        split at h
        · cases h
        · rename_i h4
          split at h
          · rename_i j rest h5; cases h; exact ⟨h1, h2, by simpa using h3, by simpa using h4, rest, h5⟩
          · cases h

/-- Everything a fetch that gives no instruction says: a fault, or one of two exceptions. -/
theorem fetch_error {s : State} {r : Result} (h : fetch s = .error r) :
    (∃ how, r = .fault (.runOver how)) ∨ r = .fault (.fetchOutsideProgram s.pc) ∨ r = raise (.addressErrorLoad s.pc) s ∨
      r = raise .reservedInstruction s := by
  unfold fetch at h
  split at h
  · cases h; exact .inl ⟨_, rfl⟩
  · split at h
    · cases h; exact .inl ⟨_, rfl⟩
    · split at h
      · cases h; exact .inr (.inr (.inl rfl))
      · split at h
        · cases h; exact .inr (.inl rfl)
        · split at h
          · cases h
          · cases h; exact .inr (.inr (.inr rfl))

/-- Everything a step can answer as a next state: an instruction's, or an exception's of the fetch. -/
theorem step_next {s t : State} (h : step s = .next t) :
    (∃ i, fetch s = .ok i ∧ exec i s = .next t) ∨ raise (.addressErrorLoad s.pc) s = .next t ∨
      raise .reservedInstruction s = .next t := by
  unfold step at h
  split at h
  · rename_i i hi; exact .inl ⟨i, hi, h⟩
  · rename_i r hr
    rcases fetch_error hr with ⟨how, rfl⟩ | rfl | rfl | rfl
    · cases h
    · cases h
    · exact .inr (.inl h)
    · exact .inr (.inr h)

end Sys2Proof.Machine
end

