-- ==== Sys2Proof/Laws/PerInstr.lean ====
section
/-! SUPPORT. Statements for all instructions, made per instruction: the word of every instruction has its row's fixed bits. -/

namespace Sys2Proof.Laws.EncodeMatches

/-- The encoder's word selects the row of the opcode table that the instruction is of. -/
def Statement (i : Instr) : Prop := encode i &&& (rowOf i).mask = (rowOf i).pattern

theorem add (rd rs rt) : Statement (.add rd rs rt) := by
  show wordR 0b000000#6 rs rt rd 0#5 0b100000#6 &&& rowAdd.mask = rowAdd.pattern
  rw [show (rowAdd.mask) = wordR 63#6 0#5 0#5 0#5 31#5 63#6 from rfl, wordR_and]
  simp only [BitVec.and_zero]
  rfl

theorem addi (rt rs imm) : Statement (.addi rt rs imm) := by
  show wordI 0b001000#6 rs rt imm &&& rowAddi.mask = rowAddi.pattern
  rw [show (rowAddi.mask) = wordI 63#6 0#5 0#5 0#16 from rfl, wordI_and]
  simp only [BitVec.and_zero]
  rfl

theorem addiu (rt rs imm) : Statement (.addiu rt rs imm) := by
  show wordI 0b001001#6 rs rt imm &&& rowAddiu.mask = rowAddiu.pattern
  rw [show (rowAddiu.mask) = wordI 63#6 0#5 0#5 0#16 from rfl, wordI_and]
  simp only [BitVec.and_zero]
  rfl

theorem addu (rd rs rt) : Statement (.addu rd rs rt) := by
  show wordR 0b000000#6 rs rt rd 0#5 0b100001#6 &&& rowAddu.mask = rowAddu.pattern
  rw [show (rowAddu.mask) = wordR 63#6 0#5 0#5 0#5 31#5 63#6 from rfl, wordR_and]
  simp only [BitVec.and_zero]
  rfl

theorem and (rd rs rt) : Statement (.and rd rs rt) := by
  show wordR 0b000000#6 rs rt rd 0#5 0b100100#6 &&& rowAnd.mask = rowAnd.pattern
  rw [show (rowAnd.mask) = wordR 63#6 0#5 0#5 0#5 31#5 63#6 from rfl, wordR_and]
  simp only [BitVec.and_zero]
  rfl

theorem andi (rt rs imm) : Statement (.andi rt rs imm) := by
  show wordI 0b001100#6 rs rt imm &&& rowAndi.mask = rowAndi.pattern
  rw [show (rowAndi.mask) = wordI 63#6 0#5 0#5 0#16 from rfl, wordI_and]
  simp only [BitVec.and_zero]
  rfl

theorem clo (rd rs rt) : Statement (.clo rd rs rt) := by
  show wordR 0b011100#6 rs rt rd 0#5 0b100001#6 &&& rowClo.mask = rowClo.pattern
  rw [show (rowClo.mask) = wordR 63#6 0#5 0#5 0#5 31#5 63#6 from rfl, wordR_and]
  simp only [BitVec.and_zero]
  rfl

theorem clz (rd rs rt) : Statement (.clz rd rs rt) := by
  show wordR 0b011100#6 rs rt rd 0#5 0b100000#6 &&& rowClz.mask = rowClz.pattern
  rw [show (rowClz.mask) = wordR 63#6 0#5 0#5 0#5 31#5 63#6 from rfl, wordR_and]
  simp only [BitVec.and_zero]
  rfl

theorem lui (rt imm) : Statement (.lui rt imm) := by
  show wordI 0b001111#6 0#5 rt imm &&& rowLui.mask = rowLui.pattern
  rw [show (rowLui.mask) = wordI 63#6 31#5 0#5 0#16 from rfl, wordI_and]
  simp only [BitVec.and_zero]
  rfl

theorem movn (rd rs rt) : Statement (.movn rd rs rt) := by
  show wordR 0b000000#6 rs rt rd 0#5 0b001011#6 &&& rowMovn.mask = rowMovn.pattern
  rw [show (rowMovn.mask) = wordR 63#6 0#5 0#5 0#5 31#5 63#6 from rfl, wordR_and]
  simp only [BitVec.and_zero]
  rfl

theorem movz (rd rs rt) : Statement (.movz rd rs rt) := by
  show wordR 0b000000#6 rs rt rd 0#5 0b001010#6 &&& rowMovz.mask = rowMovz.pattern
  rw [show (rowMovz.mask) = wordR 63#6 0#5 0#5 0#5 31#5 63#6 from rfl, wordR_and]
  simp only [BitVec.and_zero]
  rfl

theorem nop : Statement .nop := by unfold Statement; decide

theorem nor (rd rs rt) : Statement (.nor rd rs rt) := by
  show wordR 0b000000#6 rs rt rd 0#5 0b100111#6 &&& rowNor.mask = rowNor.pattern
  rw [show (rowNor.mask) = wordR 63#6 0#5 0#5 0#5 31#5 63#6 from rfl, wordR_and]
  simp only [BitVec.and_zero]
  rfl

theorem or (rd rs rt) : Statement (.or rd rs rt) := by
  show wordR 0b000000#6 rs rt rd 0#5 0b100101#6 &&& rowOr.mask = rowOr.pattern
  rw [show (rowOr.mask) = wordR 63#6 0#5 0#5 0#5 31#5 63#6 from rfl, wordR_and]
  simp only [BitVec.and_zero]
  rfl

theorem ori (rt rs imm) : Statement (.ori rt rs imm) := by
  show wordI 0b001101#6 rs rt imm &&& rowOri.mask = rowOri.pattern
  rw [show (rowOri.mask) = wordI 63#6 0#5 0#5 0#16 from rfl, wordI_and]
  simp only [BitVec.and_zero]
  rfl

theorem sll (rd rt sa) : Statement (.sll rd rt sa) := by
  show wordR 0b000000#6 0#5 rt rd sa 0b000000#6 &&& rowSll.mask = rowSll.pattern
  rw [show (rowSll.mask) = wordR 63#6 31#5 0#5 0#5 0#5 63#6 from rfl, wordR_and]
  simp only [BitVec.and_zero]
  rfl

theorem sllv (rd rt rs) : Statement (.sllv rd rt rs) := by
  show wordR 0b000000#6 rs rt rd 0#5 0b000100#6 &&& rowSllv.mask = rowSllv.pattern
  rw [show (rowSllv.mask) = wordR 63#6 0#5 0#5 0#5 31#5 63#6 from rfl, wordR_and]
  simp only [BitVec.and_zero]
  rfl

theorem slt (rd rs rt) : Statement (.slt rd rs rt) := by
  show wordR 0b000000#6 rs rt rd 0#5 0b101010#6 &&& rowSlt.mask = rowSlt.pattern
  rw [show (rowSlt.mask) = wordR 63#6 0#5 0#5 0#5 31#5 63#6 from rfl, wordR_and]
  simp only [BitVec.and_zero]
  rfl

theorem slti (rt rs imm) : Statement (.slti rt rs imm) := by
  show wordI 0b001010#6 rs rt imm &&& rowSlti.mask = rowSlti.pattern
  rw [show (rowSlti.mask) = wordI 63#6 0#5 0#5 0#16 from rfl, wordI_and]
  simp only [BitVec.and_zero]
  rfl

theorem sltiu (rt rs imm) : Statement (.sltiu rt rs imm) := by
  show wordI 0b001011#6 rs rt imm &&& rowSltiu.mask = rowSltiu.pattern
  rw [show (rowSltiu.mask) = wordI 63#6 0#5 0#5 0#16 from rfl, wordI_and]
  simp only [BitVec.and_zero]
  rfl

theorem sltu (rd rs rt) : Statement (.sltu rd rs rt) := by
  show wordR 0b000000#6 rs rt rd 0#5 0b101011#6 &&& rowSltu.mask = rowSltu.pattern
  rw [show (rowSltu.mask) = wordR 63#6 0#5 0#5 0#5 31#5 63#6 from rfl, wordR_and]
  simp only [BitVec.and_zero]
  rfl

theorem sra (rd rt sa) : Statement (.sra rd rt sa) := by
  show wordR 0b000000#6 0#5 rt rd sa 0b000011#6 &&& rowSra.mask = rowSra.pattern
  rw [show (rowSra.mask) = wordR 63#6 31#5 0#5 0#5 0#5 63#6 from rfl, wordR_and]
  simp only [BitVec.and_zero]
  rfl

theorem srav (rd rt rs) : Statement (.srav rd rt rs) := by
  show wordR 0b000000#6 rs rt rd 0#5 0b000111#6 &&& rowSrav.mask = rowSrav.pattern
  rw [show (rowSrav.mask) = wordR 63#6 0#5 0#5 0#5 31#5 63#6 from rfl, wordR_and]
  simp only [BitVec.and_zero]
  rfl

theorem srl (rd rt sa) : Statement (.srl rd rt sa) := by
  show wordR 0b000000#6 0#5 rt rd sa 0b000010#6 &&& rowSrl.mask = rowSrl.pattern
  rw [show (rowSrl.mask) = wordR 63#6 31#5 0#5 0#5 0#5 63#6 from rfl, wordR_and]
  simp only [BitVec.and_zero]
  rfl

theorem srlv (rd rt rs) : Statement (.srlv rd rt rs) := by
  show wordR 0b000000#6 rs rt rd 0#5 0b000110#6 &&& rowSrlv.mask = rowSrlv.pattern
  rw [show (rowSrlv.mask) = wordR 63#6 0#5 0#5 0#5 31#5 63#6 from rfl, wordR_and]
  simp only [BitVec.and_zero]
  rfl

theorem sub (rd rs rt) : Statement (.sub rd rs rt) := by
  show wordR 0b000000#6 rs rt rd 0#5 0b100010#6 &&& rowSub.mask = rowSub.pattern
  rw [show (rowSub.mask) = wordR 63#6 0#5 0#5 0#5 31#5 63#6 from rfl, wordR_and]
  simp only [BitVec.and_zero]
  rfl

theorem subu (rd rs rt) : Statement (.subu rd rs rt) := by
  show wordR 0b000000#6 rs rt rd 0#5 0b100011#6 &&& rowSubu.mask = rowSubu.pattern
  rw [show (rowSubu.mask) = wordR 63#6 0#5 0#5 0#5 31#5 63#6 from rfl, wordR_and]
  simp only [BitVec.and_zero]
  rfl

theorem xor (rd rs rt) : Statement (.xor rd rs rt) := by
  show wordR 0b000000#6 rs rt rd 0#5 0b100110#6 &&& rowXor.mask = rowXor.pattern
  rw [show (rowXor.mask) = wordR 63#6 0#5 0#5 0#5 31#5 63#6 from rfl, wordR_and]
  simp only [BitVec.and_zero]
  rfl

theorem xori (rt rs imm) : Statement (.xori rt rs imm) := by
  show wordI 0b001110#6 rs rt imm &&& rowXori.mask = rowXori.pattern
  rw [show (rowXori.mask) = wordI 63#6 0#5 0#5 0#16 from rfl, wordI_and]
  simp only [BitVec.and_zero]
  rfl

theorem div (rs rt) : Statement (.div rs rt) := by
  show wordR 0b000000#6 rs rt 0#5 0#5 0b011010#6 &&& rowDiv.mask = rowDiv.pattern
  rw [show (rowDiv.mask) = wordR 63#6 0#5 0#5 31#5 31#5 63#6 from rfl, wordR_and]
  simp only [BitVec.and_zero]
  rfl

theorem divu (rs rt) : Statement (.divu rs rt) := by
  show wordR 0b000000#6 rs rt 0#5 0#5 0b011011#6 &&& rowDivu.mask = rowDivu.pattern
  rw [show (rowDivu.mask) = wordR 63#6 0#5 0#5 31#5 31#5 63#6 from rfl, wordR_and]
  simp only [BitVec.and_zero]
  rfl

theorem madd (rs rt) : Statement (.madd rs rt) := by
  show wordR 0b011100#6 rs rt 0#5 0#5 0b000000#6 &&& rowMadd.mask = rowMadd.pattern
  rw [show (rowMadd.mask) = wordR 63#6 0#5 0#5 31#5 31#5 63#6 from rfl, wordR_and]
  simp only [BitVec.and_zero]
  rfl

theorem maddu (rs rt) : Statement (.maddu rs rt) := by
  show wordR 0b011100#6 rs rt 0#5 0#5 0b000001#6 &&& rowMaddu.mask = rowMaddu.pattern
  rw [show (rowMaddu.mask) = wordR 63#6 0#5 0#5 31#5 31#5 63#6 from rfl, wordR_and]
  simp only [BitVec.and_zero]
  rfl

theorem mfhi (rd) : Statement (.mfhi rd) := by
  show wordR 0b000000#6 0#5 0#5 rd 0#5 0b010000#6 &&& rowMfhi.mask = rowMfhi.pattern
  rw [show (rowMfhi.mask) = wordR 63#6 31#5 31#5 0#5 31#5 63#6 from rfl, wordR_and]
  simp only [BitVec.and_zero]
  rfl

theorem mflo (rd) : Statement (.mflo rd) := by
  show wordR 0b000000#6 0#5 0#5 rd 0#5 0b010010#6 &&& rowMflo.mask = rowMflo.pattern
  rw [show (rowMflo.mask) = wordR 63#6 31#5 31#5 0#5 31#5 63#6 from rfl, wordR_and]
  simp only [BitVec.and_zero]
  rfl

theorem msub (rs rt) : Statement (.msub rs rt) := by
  show wordR 0b011100#6 rs rt 0#5 0#5 0b000100#6 &&& rowMsub.mask = rowMsub.pattern
  rw [show (rowMsub.mask) = wordR 63#6 0#5 0#5 31#5 31#5 63#6 from rfl, wordR_and]
  simp only [BitVec.and_zero]
  rfl

theorem msubu (rs rt) : Statement (.msubu rs rt) := by
  show wordR 0b011100#6 rs rt 0#5 0#5 0b000101#6 &&& rowMsubu.mask = rowMsubu.pattern
  rw [show (rowMsubu.mask) = wordR 63#6 0#5 0#5 31#5 31#5 63#6 from rfl, wordR_and]
  simp only [BitVec.and_zero]
  rfl

theorem mthi (rs) : Statement (.mthi rs) := by
  show wordR 0b000000#6 rs 0#5 0#5 0#5 0b010001#6 &&& rowMthi.mask = rowMthi.pattern
  rw [show (rowMthi.mask) = wordR 63#6 0#5 31#5 31#5 31#5 63#6 from rfl, wordR_and]
  simp only [BitVec.and_zero]
  rfl

theorem mtlo (rs) : Statement (.mtlo rs) := by
  show wordR 0b000000#6 rs 0#5 0#5 0#5 0b010011#6 &&& rowMtlo.mask = rowMtlo.pattern
  rw [show (rowMtlo.mask) = wordR 63#6 0#5 31#5 31#5 31#5 63#6 from rfl, wordR_and]
  simp only [BitVec.and_zero]
  rfl

theorem mul (rd rs rt) : Statement (.mul rd rs rt) := by
  show wordR 0b011100#6 rs rt rd 0#5 0b000010#6 &&& rowMul.mask = rowMul.pattern
  rw [show (rowMul.mask) = wordR 63#6 0#5 0#5 0#5 31#5 63#6 from rfl, wordR_and]
  simp only [BitVec.and_zero]
  rfl

theorem mult (rs rt) : Statement (.mult rs rt) := by
  show wordR 0b000000#6 rs rt 0#5 0#5 0b011000#6 &&& rowMult.mask = rowMult.pattern
  rw [show (rowMult.mask) = wordR 63#6 0#5 0#5 31#5 31#5 63#6 from rfl, wordR_and]
  simp only [BitVec.and_zero]
  rfl

theorem multu (rs rt) : Statement (.multu rs rt) := by
  show wordR 0b000000#6 rs rt 0#5 0#5 0b011001#6 &&& rowMultu.mask = rowMultu.pattern
  rw [show (rowMultu.mask) = wordR 63#6 0#5 0#5 31#5 31#5 63#6 from rfl, wordR_and]
  simp only [BitVec.and_zero]
  rfl

theorem bc1f (cc imm) : Statement (.bc1f cc imm) := by
  show wordI 0b010001#6 0b01000#5 (ccField cc 0#1) imm &&& rowBc1f.mask = rowBc1f.pattern
  rw [show (rowBc1f.mask) = wordI 63#6 31#5 3#5 0#16 from rfl, wordI_and]
  simp only [BitVec.and_zero, ccField_and_three]
  rfl

theorem bc1t (cc imm) : Statement (.bc1t cc imm) := by
  show wordI 0b010001#6 0b01000#5 (ccField cc 1#1) imm &&& rowBc1t.mask = rowBc1t.pattern
  rw [show (rowBc1t.mask) = wordI 63#6 31#5 3#5 0#16 from rfl, wordI_and]
  simp only [BitVec.and_zero, ccField_and_three]
  rfl

theorem beq (rs rt imm) : Statement (.beq rs rt imm) := by
  show wordI 0b000100#6 rs rt imm &&& rowBeq.mask = rowBeq.pattern
  rw [show (rowBeq.mask) = wordI 63#6 0#5 0#5 0#16 from rfl, wordI_and]
  simp only [BitVec.and_zero]
  rfl

theorem bgez (rs imm) : Statement (.bgez rs imm) := by
  show wordI 0b000001#6 rs 0b00001#5 imm &&& rowBgez.mask = rowBgez.pattern
  rw [show (rowBgez.mask) = wordI 63#6 0#5 31#5 0#16 from rfl, wordI_and]
  simp only [BitVec.and_zero]
  rfl

theorem bgezal (rs imm) : Statement (.bgezal rs imm) := by
  show wordI 0b000001#6 rs 0b10001#5 imm &&& rowBgezal.mask = rowBgezal.pattern
  rw [show (rowBgezal.mask) = wordI 63#6 0#5 31#5 0#16 from rfl, wordI_and]
  simp only [BitVec.and_zero]
  rfl

theorem bgtz (rs imm) : Statement (.bgtz rs imm) := by
  show wordI 0b000111#6 rs 0#5 imm &&& rowBgtz.mask = rowBgtz.pattern
  rw [show (rowBgtz.mask) = wordI 63#6 0#5 31#5 0#16 from rfl, wordI_and]
  simp only [BitVec.and_zero]
  rfl

theorem blez (rs imm) : Statement (.blez rs imm) := by
  show wordI 0b000110#6 rs 0#5 imm &&& rowBlez.mask = rowBlez.pattern
  rw [show (rowBlez.mask) = wordI 63#6 0#5 31#5 0#16 from rfl, wordI_and]
  simp only [BitVec.and_zero]
  rfl

theorem bltz (rs imm) : Statement (.bltz rs imm) := by
  show wordI 0b000001#6 rs 0#5 imm &&& rowBltz.mask = rowBltz.pattern
  rw [show (rowBltz.mask) = wordI 63#6 0#5 31#5 0#16 from rfl, wordI_and]
  simp only [BitVec.and_zero]
  rfl

theorem bltzal (rs imm) : Statement (.bltzal rs imm) := by
  show wordI 0b000001#6 rs 0b10000#5 imm &&& rowBltzal.mask = rowBltzal.pattern
  rw [show (rowBltzal.mask) = wordI 63#6 0#5 31#5 0#16 from rfl, wordI_and]
  simp only [BitVec.and_zero]
  rfl

theorem bne (rs rt imm) : Statement (.bne rs rt imm) := by
  show wordI 0b000101#6 rs rt imm &&& rowBne.mask = rowBne.pattern
  rw [show (rowBne.mask) = wordI 63#6 0#5 0#5 0#16 from rfl, wordI_and]
  simp only [BitVec.and_zero]
  rfl

theorem j (index) : Statement (.j index) := by
  show wordJ 0b000010#6 index &&& rowJ.mask = rowJ.pattern
  rw [show (rowJ.mask) = wordJ 63#6 0#26 from rfl, wordJ_and]
  simp only [BitVec.and_zero]
  rfl

theorem jal (index) : Statement (.jal index) := by
  show wordJ 0b000011#6 index &&& rowJal.mask = rowJal.pattern
  rw [show (rowJal.mask) = wordJ 63#6 0#26 from rfl, wordJ_and]
  simp only [BitVec.and_zero]
  rfl

theorem jalr (rd rs hint) : Statement (.jalr rd rs hint) := by
  show wordR 0b000000#6 rs 0#5 rd hint 0b001001#6 &&& rowJalr.mask = rowJalr.pattern
  rw [show (rowJalr.mask) = wordR 63#6 0#5 31#5 0#5 0#5 63#6 from rfl, wordR_and]
  simp only [BitVec.and_zero]
  rfl

theorem jr (rs hint) : Statement (.jr rs hint) := by
  show wordR 0b000000#6 rs 0#5 0#5 hint 0b001000#6 &&& rowJr.mask = rowJr.pattern
  rw [show (rowJr.mask) = wordR 63#6 0#5 31#5 31#5 0#5 63#6 from rfl, wordR_and]
  simp only [BitVec.and_zero]
  rfl

theorem lb (rt imm rs) : Statement (.lb rt imm rs) := by
  show wordI 0b100000#6 rs rt imm &&& rowLb.mask = rowLb.pattern
  rw [show (rowLb.mask) = wordI 63#6 0#5 0#5 0#16 from rfl, wordI_and]
  simp only [BitVec.and_zero]
  rfl

theorem lbu (rt imm rs) : Statement (.lbu rt imm rs) := by
  show wordI 0b100100#6 rs rt imm &&& rowLbu.mask = rowLbu.pattern
  rw [show (rowLbu.mask) = wordI 63#6 0#5 0#5 0#16 from rfl, wordI_and]
  simp only [BitVec.and_zero]
  rfl

theorem ldc1 (ft imm rs) : Statement (.ldc1 ft imm rs) := by
  show wordI 0b110101#6 rs ft imm &&& rowLdc1.mask = rowLdc1.pattern
  rw [show (rowLdc1.mask) = wordI 63#6 0#5 0#5 0#16 from rfl, wordI_and]
  simp only [BitVec.and_zero]
  rfl

theorem lh (rt imm rs) : Statement (.lh rt imm rs) := by
  show wordI 0b100001#6 rs rt imm &&& rowLh.mask = rowLh.pattern
  rw [show (rowLh.mask) = wordI 63#6 0#5 0#5 0#16 from rfl, wordI_and]
  simp only [BitVec.and_zero]
  rfl

theorem lhu (rt imm rs) : Statement (.lhu rt imm rs) := by
  show wordI 0b100101#6 rs rt imm &&& rowLhu.mask = rowLhu.pattern
  rw [show (rowLhu.mask) = wordI 63#6 0#5 0#5 0#16 from rfl, wordI_and]
  simp only [BitVec.and_zero]
  rfl

theorem ll (rt imm rs) : Statement (.ll rt imm rs) := by
  show wordI 0b110000#6 rs rt imm &&& rowLl.mask = rowLl.pattern
  rw [show (rowLl.mask) = wordI 63#6 0#5 0#5 0#16 from rfl, wordI_and]
  simp only [BitVec.and_zero]
  rfl

theorem lw (rt imm rs) : Statement (.lw rt imm rs) := by
  show wordI 0b100011#6 rs rt imm &&& rowLw.mask = rowLw.pattern
  rw [show (rowLw.mask) = wordI 63#6 0#5 0#5 0#16 from rfl, wordI_and]
  simp only [BitVec.and_zero]
  rfl

theorem lwc1 (ft imm rs) : Statement (.lwc1 ft imm rs) := by
  show wordI 0b110001#6 rs ft imm &&& rowLwc1.mask = rowLwc1.pattern
  rw [show (rowLwc1.mask) = wordI 63#6 0#5 0#5 0#16 from rfl, wordI_and]
  simp only [BitVec.and_zero]
  rfl

theorem lwl (rt imm rs) : Statement (.lwl rt imm rs) := by
  show wordI 0b100010#6 rs rt imm &&& rowLwl.mask = rowLwl.pattern
  rw [show (rowLwl.mask) = wordI 63#6 0#5 0#5 0#16 from rfl, wordI_and]
  simp only [BitVec.and_zero]
  rfl

theorem lwr (rt imm rs) : Statement (.lwr rt imm rs) := by
  show wordI 0b100110#6 rs rt imm &&& rowLwr.mask = rowLwr.pattern
  rw [show (rowLwr.mask) = wordI 63#6 0#5 0#5 0#16 from rfl, wordI_and]
  simp only [BitVec.and_zero]
  rfl

theorem sb (rt imm rs) : Statement (.sb rt imm rs) := by
  show wordI 0b101000#6 rs rt imm &&& rowSb.mask = rowSb.pattern
  rw [show (rowSb.mask) = wordI 63#6 0#5 0#5 0#16 from rfl, wordI_and]
  simp only [BitVec.and_zero]
  rfl

theorem sc (rt imm rs) : Statement (.sc rt imm rs) := by
  show wordI 0b111000#6 rs rt imm &&& rowSc.mask = rowSc.pattern
  rw [show (rowSc.mask) = wordI 63#6 0#5 0#5 0#16 from rfl, wordI_and]
  simp only [BitVec.and_zero]
  rfl

theorem sdc1 (ft imm rs) : Statement (.sdc1 ft imm rs) := by
  show wordI 0b111101#6 rs ft imm &&& rowSdc1.mask = rowSdc1.pattern
  rw [show (rowSdc1.mask) = wordI 63#6 0#5 0#5 0#16 from rfl, wordI_and]
  simp only [BitVec.and_zero]
  rfl

theorem sh (rt imm rs) : Statement (.sh rt imm rs) := by
  show wordI 0b101001#6 rs rt imm &&& rowSh.mask = rowSh.pattern
  rw [show (rowSh.mask) = wordI 63#6 0#5 0#5 0#16 from rfl, wordI_and]
  simp only [BitVec.and_zero]
  rfl

theorem sw (rt imm rs) : Statement (.sw rt imm rs) := by
  show wordI 0b101011#6 rs rt imm &&& rowSw.mask = rowSw.pattern
  rw [show (rowSw.mask) = wordI 63#6 0#5 0#5 0#16 from rfl, wordI_and]
  simp only [BitVec.and_zero]
  rfl

theorem swc1 (ft imm rs) : Statement (.swc1 ft imm rs) := by
  show wordI 0b111001#6 rs ft imm &&& rowSwc1.mask = rowSwc1.pattern
  rw [show (rowSwc1.mask) = wordI 63#6 0#5 0#5 0#16 from rfl, wordI_and]
  simp only [BitVec.and_zero]
  rfl

theorem swl (rt imm rs) : Statement (.swl rt imm rs) := by
  show wordI 0b101010#6 rs rt imm &&& rowSwl.mask = rowSwl.pattern
  rw [show (rowSwl.mask) = wordI 63#6 0#5 0#5 0#16 from rfl, wordI_and]
  simp only [BitVec.and_zero]
  rfl

theorem swr (rt imm rs) : Statement (.swr rt imm rs) := by
  show wordI 0b101110#6 rs rt imm &&& rowSwr.mask = rowSwr.pattern
  rw [show (rowSwr.mask) = wordI 63#6 0#5 0#5 0#16 from rfl, wordI_and]
  simp only [BitVec.and_zero]
  rfl

theorem brk (code) : Statement (.brk code) := by
  show wordCode code 0b001101#6 &&& rowBrk.mask = rowBrk.pattern
  rw [show (rowBrk.mask) = (63#6 ++ 0#20 ++ 63#6) from rfl, wordCode_and]
  simp only [BitVec.and_zero]
  rfl

theorem eret : Statement .eret := by unfold Statement; decide

theorem mfc0 (rt rd) : Statement (.mfc0 rt rd) := by
  show wordR 0b010000#6 0#5 rt rd 0#5 0b000000#6 &&& rowMfc0.mask = rowMfc0.pattern
  rw [show (rowMfc0.mask) = wordR 63#6 31#5 0#5 0#5 31#5 63#6 from rfl, wordR_and]
  simp only [BitVec.and_zero]
  rfl

theorem mtc0 (rt rd) : Statement (.mtc0 rt rd) := by
  show wordR 0b010000#6 0b00100#5 rt rd 0#5 0b000000#6 &&& rowMtc0.mask = rowMtc0.pattern
  rw [show (rowMtc0.mask) = wordR 63#6 31#5 0#5 0#5 31#5 63#6 from rfl, wordR_and]
  simp only [BitVec.and_zero]
  rfl

theorem syscall (code) : Statement (.syscall code) := by
  show wordCode code 0b001100#6 &&& rowSyscall.mask = rowSyscall.pattern
  rw [show (rowSyscall.mask) = (63#6 ++ 0#20 ++ 63#6) from rfl, wordCode_and]
  simp only [BitVec.and_zero]
  rfl

theorem teq (rs rt code) : Statement (.teq rs rt code) := by
  show wordTrap rs rt code 0b110100#6 &&& rowTeq.mask = rowTeq.pattern
  rw [show (rowTeq.mask) = (63#6 ++ 0#5 ++ 0#5 ++ 0#10 ++ 63#6) from rfl, wordTrap_and]
  simp only [BitVec.and_zero]
  rfl

theorem teqi (rs imm) : Statement (.teqi rs imm) := by
  show wordI 0b000001#6 rs 0b01100#5 imm &&& rowTeqi.mask = rowTeqi.pattern
  rw [show (rowTeqi.mask) = wordI 63#6 0#5 31#5 0#16 from rfl, wordI_and]
  simp only [BitVec.and_zero]
  rfl

theorem tge (rs rt code) : Statement (.tge rs rt code) := by
  show wordTrap rs rt code 0b110000#6 &&& rowTge.mask = rowTge.pattern
  rw [show (rowTge.mask) = (63#6 ++ 0#5 ++ 0#5 ++ 0#10 ++ 63#6) from rfl, wordTrap_and]
  simp only [BitVec.and_zero]
  rfl

theorem tgei (rs imm) : Statement (.tgei rs imm) := by
  show wordI 0b000001#6 rs 0b01000#5 imm &&& rowTgei.mask = rowTgei.pattern
  rw [show (rowTgei.mask) = wordI 63#6 0#5 31#5 0#16 from rfl, wordI_and]
  simp only [BitVec.and_zero]
  rfl

theorem tgeiu (rs imm) : Statement (.tgeiu rs imm) := by
  show wordI 0b000001#6 rs 0b01001#5 imm &&& rowTgeiu.mask = rowTgeiu.pattern
  rw [show (rowTgeiu.mask) = wordI 63#6 0#5 31#5 0#16 from rfl, wordI_and]
  simp only [BitVec.and_zero]
  rfl

theorem tgeu (rs rt code) : Statement (.tgeu rs rt code) := by
  show wordTrap rs rt code 0b110001#6 &&& rowTgeu.mask = rowTgeu.pattern
  rw [show (rowTgeu.mask) = (63#6 ++ 0#5 ++ 0#5 ++ 0#10 ++ 63#6) from rfl, wordTrap_and]
  simp only [BitVec.and_zero]
  rfl

theorem tlt (rs rt code) : Statement (.tlt rs rt code) := by
  show wordTrap rs rt code 0b110010#6 &&& rowTlt.mask = rowTlt.pattern
  rw [show (rowTlt.mask) = (63#6 ++ 0#5 ++ 0#5 ++ 0#10 ++ 63#6) from rfl, wordTrap_and]
  simp only [BitVec.and_zero]
  rfl

theorem tlti (rs imm) : Statement (.tlti rs imm) := by
  show wordI 0b000001#6 rs 0b01010#5 imm &&& rowTlti.mask = rowTlti.pattern
  rw [show (rowTlti.mask) = wordI 63#6 0#5 31#5 0#16 from rfl, wordI_and]
  simp only [BitVec.and_zero]
  rfl

theorem tltiu (rs imm) : Statement (.tltiu rs imm) := by
  show wordI 0b000001#6 rs 0b01011#5 imm &&& rowTltiu.mask = rowTltiu.pattern
  rw [show (rowTltiu.mask) = wordI 63#6 0#5 31#5 0#16 from rfl, wordI_and]
  simp only [BitVec.and_zero]
  rfl

theorem tltu (rs rt code) : Statement (.tltu rs rt code) := by
  show wordTrap rs rt code 0b110011#6 &&& rowTltu.mask = rowTltu.pattern
  rw [show (rowTltu.mask) = (63#6 ++ 0#5 ++ 0#5 ++ 0#10 ++ 63#6) from rfl, wordTrap_and]
  simp only [BitVec.and_zero]
  rfl

theorem tne (rs rt code) : Statement (.tne rs rt code) := by
  show wordTrap rs rt code 0b110110#6 &&& rowTne.mask = rowTne.pattern
  rw [show (rowTne.mask) = (63#6 ++ 0#5 ++ 0#5 ++ 0#10 ++ 63#6) from rfl, wordTrap_and]
  simp only [BitVec.and_zero]
  rfl

theorem tnei (rs imm) : Statement (.tnei rs imm) := by
  show wordI 0b000001#6 rs 0b01110#5 imm &&& rowTnei.mask = rowTnei.pattern
  rw [show (rowTnei.mask) = wordI 63#6 0#5 31#5 0#16 from rfl, wordI_and]
  simp only [BitVec.and_zero]
  rfl

theorem absD (fd fs) : Statement (.absD fd fs) := by
  show wordR 0b010001#6 0b10001#5 0#5 fs fd 0b000101#6 &&& rowAbsD.mask = rowAbsD.pattern
  rw [show (rowAbsD.mask) = wordR 63#6 31#5 31#5 0#5 0#5 63#6 from rfl, wordR_and]
  simp only [BitVec.and_zero]
  rfl

theorem absS (fd fs) : Statement (.absS fd fs) := by
  show wordR 0b010001#6 0b10000#5 0#5 fs fd 0b000101#6 &&& rowAbsS.mask = rowAbsS.pattern
  rw [show (rowAbsS.mask) = wordR 63#6 31#5 31#5 0#5 0#5 63#6 from rfl, wordR_and]
  simp only [BitVec.and_zero]
  rfl

theorem addD (fd fs ft) : Statement (.addD fd fs ft) := by
  show wordR 0b010001#6 0b10001#5 ft fs fd 0b000000#6 &&& rowAddD.mask = rowAddD.pattern
  rw [show (rowAddD.mask) = wordR 63#6 31#5 0#5 0#5 0#5 63#6 from rfl, wordR_and]
  simp only [BitVec.and_zero]
  rfl

theorem addS (fd fs ft) : Statement (.addS fd fs ft) := by
  show wordR 0b010001#6 0b10000#5 ft fs fd 0b000000#6 &&& rowAddS.mask = rowAddS.pattern
  rw [show (rowAddS.mask) = wordR 63#6 31#5 0#5 0#5 0#5 63#6 from rfl, wordR_and]
  simp only [BitVec.and_zero]
  rfl

theorem divD (fd fs ft) : Statement (.divD fd fs ft) := by
  show wordR 0b010001#6 0b10001#5 ft fs fd 0b000011#6 &&& rowDivD.mask = rowDivD.pattern
  rw [show (rowDivD.mask) = wordR 63#6 31#5 0#5 0#5 0#5 63#6 from rfl, wordR_and]
  simp only [BitVec.and_zero]
  rfl

theorem divS (fd fs ft) : Statement (.divS fd fs ft) := by
  show wordR 0b010001#6 0b10000#5 ft fs fd 0b000011#6 &&& rowDivS.mask = rowDivS.pattern
  rw [show (rowDivS.mask) = wordR 63#6 31#5 0#5 0#5 0#5 63#6 from rfl, wordR_and]
  simp only [BitVec.and_zero]
  rfl

theorem mulD (fd fs ft) : Statement (.mulD fd fs ft) := by
  show wordR 0b010001#6 0b10001#5 ft fs fd 0b000010#6 &&& rowMulD.mask = rowMulD.pattern
  rw [show (rowMulD.mask) = wordR 63#6 31#5 0#5 0#5 0#5 63#6 from rfl, wordR_and]
  simp only [BitVec.and_zero]
  rfl

theorem mulS (fd fs ft) : Statement (.mulS fd fs ft) := by
  show wordR 0b010001#6 0b10000#5 ft fs fd 0b000010#6 &&& rowMulS.mask = rowMulS.pattern
  rw [show (rowMulS.mask) = wordR 63#6 31#5 0#5 0#5 0#5 63#6 from rfl, wordR_and]
  simp only [BitVec.and_zero]
  rfl

theorem negD (fd fs) : Statement (.negD fd fs) := by
  show wordR 0b010001#6 0b10001#5 0#5 fs fd 0b000111#6 &&& rowNegD.mask = rowNegD.pattern
  rw [show (rowNegD.mask) = wordR 63#6 31#5 31#5 0#5 0#5 63#6 from rfl, wordR_and]
  simp only [BitVec.and_zero]
  rfl

theorem negS (fd fs) : Statement (.negS fd fs) := by
  show wordR 0b010001#6 0b10000#5 0#5 fs fd 0b000111#6 &&& rowNegS.mask = rowNegS.pattern
  rw [show (rowNegS.mask) = wordR 63#6 31#5 31#5 0#5 0#5 63#6 from rfl, wordR_and]
  simp only [BitVec.and_zero]
  rfl

theorem sqrtD (fd fs) : Statement (.sqrtD fd fs) := by
  show wordR 0b010001#6 0b10001#5 0#5 fs fd 0b000100#6 &&& rowSqrtD.mask = rowSqrtD.pattern
  rw [show (rowSqrtD.mask) = wordR 63#6 31#5 31#5 0#5 0#5 63#6 from rfl, wordR_and]
  simp only [BitVec.and_zero]
  rfl

theorem sqrtS (fd fs) : Statement (.sqrtS fd fs) := by
  show wordR 0b010001#6 0b10000#5 0#5 fs fd 0b000100#6 &&& rowSqrtS.mask = rowSqrtS.pattern
  rw [show (rowSqrtS.mask) = wordR 63#6 31#5 31#5 0#5 0#5 63#6 from rfl, wordR_and]
  simp only [BitVec.and_zero]
  rfl

theorem subD (fd fs ft) : Statement (.subD fd fs ft) := by
  show wordR 0b010001#6 0b10001#5 ft fs fd 0b000001#6 &&& rowSubD.mask = rowSubD.pattern
  rw [show (rowSubD.mask) = wordR 63#6 31#5 0#5 0#5 0#5 63#6 from rfl, wordR_and]
  simp only [BitVec.and_zero]
  rfl

theorem subS (fd fs ft) : Statement (.subS fd fs ft) := by
  show wordR 0b010001#6 0b10000#5 ft fs fd 0b000001#6 &&& rowSubS.mask = rowSubS.pattern
  rw [show (rowSubS.mask) = wordR 63#6 31#5 0#5 0#5 0#5 63#6 from rfl, wordR_and]
  simp only [BitVec.and_zero]
  rfl

theorem cEqD (cc fs ft) : Statement (.cEqD cc fs ft) := by
  show wordR 0b010001#6 0b10001#5 ft fs (ccCmpField cc) 0b110010#6 &&& rowCEqD.mask = rowCEqD.pattern
  rw [show (rowCEqD.mask) = wordR 63#6 31#5 0#5 0#5 3#5 63#6 from rfl, wordR_and]
  simp only [BitVec.and_zero, ccCmpField_and_three]
  rfl

theorem cEqS (cc fs ft) : Statement (.cEqS cc fs ft) := by
  show wordR 0b010001#6 0b10000#5 ft fs (ccCmpField cc) 0b110010#6 &&& rowCEqS.mask = rowCEqS.pattern
  rw [show (rowCEqS.mask) = wordR 63#6 31#5 0#5 0#5 3#5 63#6 from rfl, wordR_and]
  simp only [BitVec.and_zero, ccCmpField_and_three]
  rfl

theorem cLeD (cc fs ft) : Statement (.cLeD cc fs ft) := by
  show wordR 0b010001#6 0b10001#5 ft fs (ccCmpField cc) 0b111110#6 &&& rowCLeD.mask = rowCLeD.pattern
  rw [show (rowCLeD.mask) = wordR 63#6 31#5 0#5 0#5 3#5 63#6 from rfl, wordR_and]
  simp only [BitVec.and_zero, ccCmpField_and_three]
  rfl

theorem cLeS (cc fs ft) : Statement (.cLeS cc fs ft) := by
  show wordR 0b010001#6 0b10000#5 ft fs (ccCmpField cc) 0b111110#6 &&& rowCLeS.mask = rowCLeS.pattern
  rw [show (rowCLeS.mask) = wordR 63#6 31#5 0#5 0#5 3#5 63#6 from rfl, wordR_and]
  simp only [BitVec.and_zero, ccCmpField_and_three]
  rfl

theorem cLtD (cc fs ft) : Statement (.cLtD cc fs ft) := by
  show wordR 0b010001#6 0b10001#5 ft fs (ccCmpField cc) 0b111100#6 &&& rowCLtD.mask = rowCLtD.pattern
  rw [show (rowCLtD.mask) = wordR 63#6 31#5 0#5 0#5 3#5 63#6 from rfl, wordR_and]
  simp only [BitVec.and_zero, ccCmpField_and_three]
  rfl

theorem cLtS (cc fs ft) : Statement (.cLtS cc fs ft) := by
  show wordR 0b010001#6 0b10000#5 ft fs (ccCmpField cc) 0b111100#6 &&& rowCLtS.mask = rowCLtS.pattern
  rw [show (rowCLtS.mask) = wordR 63#6 31#5 0#5 0#5 3#5 63#6 from rfl, wordR_and]
  simp only [BitVec.and_zero, ccCmpField_and_three]
  rfl

theorem ceilWD (fd fs) : Statement (.ceilWD fd fs) := by
  show wordR 0b010001#6 0b10001#5 0#5 fs fd 0b001110#6 &&& rowCeilWD.mask = rowCeilWD.pattern
  rw [show (rowCeilWD.mask) = wordR 63#6 31#5 31#5 0#5 0#5 63#6 from rfl, wordR_and]
  simp only [BitVec.and_zero]
  rfl

theorem ceilWS (fd fs) : Statement (.ceilWS fd fs) := by
  show wordR 0b010001#6 0b10000#5 0#5 fs fd 0b001110#6 &&& rowCeilWS.mask = rowCeilWS.pattern
  rw [show (rowCeilWS.mask) = wordR 63#6 31#5 31#5 0#5 0#5 63#6 from rfl, wordR_and]
  simp only [BitVec.and_zero]
  rfl

theorem cvtDS (fd fs) : Statement (.cvtDS fd fs) := by
  show wordR 0b010001#6 0b10000#5 0#5 fs fd 0b100001#6 &&& rowCvtDS.mask = rowCvtDS.pattern
  rw [show (rowCvtDS.mask) = wordR 63#6 31#5 31#5 0#5 0#5 63#6 from rfl, wordR_and]
  simp only [BitVec.and_zero]
  rfl

theorem cvtDW (fd fs) : Statement (.cvtDW fd fs) := by
  show wordR 0b010001#6 0b10100#5 0#5 fs fd 0b100001#6 &&& rowCvtDW.mask = rowCvtDW.pattern
  rw [show (rowCvtDW.mask) = wordR 63#6 31#5 31#5 0#5 0#5 63#6 from rfl, wordR_and]
  simp only [BitVec.and_zero]
  rfl

theorem cvtSD (fd fs) : Statement (.cvtSD fd fs) := by
  show wordR 0b010001#6 0b10001#5 0#5 fs fd 0b100000#6 &&& rowCvtSD.mask = rowCvtSD.pattern
  rw [show (rowCvtSD.mask) = wordR 63#6 31#5 31#5 0#5 0#5 63#6 from rfl, wordR_and]
  simp only [BitVec.and_zero]
  rfl

theorem cvtSW (fd fs) : Statement (.cvtSW fd fs) := by
  show wordR 0b010001#6 0b10100#5 0#5 fs fd 0b100000#6 &&& rowCvtSW.mask = rowCvtSW.pattern
  rw [show (rowCvtSW.mask) = wordR 63#6 31#5 31#5 0#5 0#5 63#6 from rfl, wordR_and]
  simp only [BitVec.and_zero]
  rfl

theorem cvtWD (fd fs) : Statement (.cvtWD fd fs) := by
  show wordR 0b010001#6 0b10001#5 0#5 fs fd 0b100100#6 &&& rowCvtWD.mask = rowCvtWD.pattern
  rw [show (rowCvtWD.mask) = wordR 63#6 31#5 31#5 0#5 0#5 63#6 from rfl, wordR_and]
  simp only [BitVec.and_zero]
  rfl

theorem cvtWS (fd fs) : Statement (.cvtWS fd fs) := by
  show wordR 0b010001#6 0b10000#5 0#5 fs fd 0b100100#6 &&& rowCvtWS.mask = rowCvtWS.pattern
  rw [show (rowCvtWS.mask) = wordR 63#6 31#5 31#5 0#5 0#5 63#6 from rfl, wordR_and]
  simp only [BitVec.and_zero]
  rfl

theorem floorWD (fd fs) : Statement (.floorWD fd fs) := by
  show wordR 0b010001#6 0b10001#5 0#5 fs fd 0b001111#6 &&& rowFloorWD.mask = rowFloorWD.pattern
  rw [show (rowFloorWD.mask) = wordR 63#6 31#5 31#5 0#5 0#5 63#6 from rfl, wordR_and]
  simp only [BitVec.and_zero]
  rfl

theorem floorWS (fd fs) : Statement (.floorWS fd fs) := by
  show wordR 0b010001#6 0b10000#5 0#5 fs fd 0b001111#6 &&& rowFloorWS.mask = rowFloorWS.pattern
  rw [show (rowFloorWS.mask) = wordR 63#6 31#5 31#5 0#5 0#5 63#6 from rfl, wordR_and]
  simp only [BitVec.and_zero]
  rfl

theorem mfc1 (rt fs) : Statement (.mfc1 rt fs) := by
  show wordR 0b010001#6 0#5 rt fs 0#5 0b000000#6 &&& rowMfc1.mask = rowMfc1.pattern
  rw [show (rowMfc1.mask) = wordR 63#6 31#5 0#5 0#5 31#5 63#6 from rfl, wordR_and]
  simp only [BitVec.and_zero]
  rfl

theorem movD (fd fs) : Statement (.movD fd fs) := by
  show wordR 0b010001#6 0b10001#5 0#5 fs fd 0b000110#6 &&& rowMovD.mask = rowMovD.pattern
  rw [show (rowMovD.mask) = wordR 63#6 31#5 31#5 0#5 0#5 63#6 from rfl, wordR_and]
  simp only [BitVec.and_zero]
  rfl

theorem movS (fd fs) : Statement (.movS fd fs) := by
  show wordR 0b010001#6 0b10000#5 0#5 fs fd 0b000110#6 &&& rowMovS.mask = rowMovS.pattern
  rw [show (rowMovS.mask) = wordR 63#6 31#5 31#5 0#5 0#5 63#6 from rfl, wordR_and]
  simp only [BitVec.and_zero]
  rfl

theorem movf (rd rs cc) : Statement (.movf rd rs cc) := by
  show wordR 0b000000#6 rs (ccField cc 0#1) rd 0#5 0b000001#6 &&& rowMovf.mask = rowMovf.pattern
  rw [show (rowMovf.mask) = wordR 63#6 0#5 3#5 0#5 31#5 63#6 from rfl, wordR_and]
  simp only [BitVec.and_zero, ccField_and_three]
  rfl

theorem movfD (fd fs cc) : Statement (.movfD fd fs cc) := by
  show wordR 0b010001#6 0b10001#5 (ccField cc 0#1) fs fd 0b010001#6 &&& rowMovfD.mask = rowMovfD.pattern
  rw [show (rowMovfD.mask) = wordR 63#6 31#5 3#5 0#5 0#5 63#6 from rfl, wordR_and]
  simp only [BitVec.and_zero, ccField_and_three]
  rfl

theorem movfS (fd fs cc) : Statement (.movfS fd fs cc) := by
  show wordR 0b010001#6 0b10000#5 (ccField cc 0#1) fs fd 0b010001#6 &&& rowMovfS.mask = rowMovfS.pattern
  rw [show (rowMovfS.mask) = wordR 63#6 31#5 3#5 0#5 0#5 63#6 from rfl, wordR_and]
  simp only [BitVec.and_zero, ccField_and_three]
  rfl

theorem movnD (fd fs rt) : Statement (.movnD fd fs rt) := by
  show wordR 0b010001#6 0b10001#5 rt fs fd 0b010011#6 &&& rowMovnD.mask = rowMovnD.pattern
  rw [show (rowMovnD.mask) = wordR 63#6 31#5 0#5 0#5 0#5 63#6 from rfl, wordR_and]
  simp only [BitVec.and_zero]
  rfl

theorem movnS (fd fs rt) : Statement (.movnS fd fs rt) := by
  show wordR 0b010001#6 0b10000#5 rt fs fd 0b010011#6 &&& rowMovnS.mask = rowMovnS.pattern
  rw [show (rowMovnS.mask) = wordR 63#6 31#5 0#5 0#5 0#5 63#6 from rfl, wordR_and]
  simp only [BitVec.and_zero]
  rfl

theorem movt (rd rs cc) : Statement (.movt rd rs cc) := by
  show wordR 0b000000#6 rs (ccField cc 1#1) rd 0#5 0b000001#6 &&& rowMovt.mask = rowMovt.pattern
  rw [show (rowMovt.mask) = wordR 63#6 0#5 3#5 0#5 31#5 63#6 from rfl, wordR_and]
  simp only [BitVec.and_zero, ccField_and_three]
  rfl

theorem movtD (fd fs cc) : Statement (.movtD fd fs cc) := by
  show wordR 0b010001#6 0b10001#5 (ccField cc 1#1) fs fd 0b010001#6 &&& rowMovtD.mask = rowMovtD.pattern
  rw [show (rowMovtD.mask) = wordR 63#6 31#5 3#5 0#5 0#5 63#6 from rfl, wordR_and]
  simp only [BitVec.and_zero, ccField_and_three]
  rfl

theorem movtS (fd fs cc) : Statement (.movtS fd fs cc) := by
  show wordR 0b010001#6 0b10000#5 (ccField cc 1#1) fs fd 0b010001#6 &&& rowMovtS.mask = rowMovtS.pattern
  rw [show (rowMovtS.mask) = wordR 63#6 31#5 3#5 0#5 0#5 63#6 from rfl, wordR_and]
  simp only [BitVec.and_zero, ccField_and_three]
  rfl

theorem movzD (fd fs rt) : Statement (.movzD fd fs rt) := by
  show wordR 0b010001#6 0b10001#5 rt fs fd 0b010010#6 &&& rowMovzD.mask = rowMovzD.pattern
  rw [show (rowMovzD.mask) = wordR 63#6 31#5 0#5 0#5 0#5 63#6 from rfl, wordR_and]
  simp only [BitVec.and_zero]
  rfl

theorem movzS (fd fs rt) : Statement (.movzS fd fs rt) := by
  show wordR 0b010001#6 0b10000#5 rt fs fd 0b010010#6 &&& rowMovzS.mask = rowMovzS.pattern
  rw [show (rowMovzS.mask) = wordR 63#6 31#5 0#5 0#5 0#5 63#6 from rfl, wordR_and]
  simp only [BitVec.and_zero]
  rfl

theorem mtc1 (rt fs) : Statement (.mtc1 rt fs) := by
  show wordR 0b010001#6 0b00100#5 rt fs 0#5 0b000000#6 &&& rowMtc1.mask = rowMtc1.pattern
  rw [show (rowMtc1.mask) = wordR 63#6 31#5 0#5 0#5 31#5 63#6 from rfl, wordR_and]
  simp only [BitVec.and_zero]
  rfl

theorem roundWD (fd fs) : Statement (.roundWD fd fs) := by
  show wordR 0b010001#6 0b10001#5 0#5 fs fd 0b001100#6 &&& rowRoundWD.mask = rowRoundWD.pattern
  rw [show (rowRoundWD.mask) = wordR 63#6 31#5 31#5 0#5 0#5 63#6 from rfl, wordR_and]
  simp only [BitVec.and_zero]
  rfl

theorem roundWS (fd fs) : Statement (.roundWS fd fs) := by
  show wordR 0b010001#6 0b10000#5 0#5 fs fd 0b001100#6 &&& rowRoundWS.mask = rowRoundWS.pattern
  rw [show (rowRoundWS.mask) = wordR 63#6 31#5 31#5 0#5 0#5 63#6 from rfl, wordR_and]
  simp only [BitVec.and_zero]
  rfl

theorem truncWD (fd fs) : Statement (.truncWD fd fs) := by
  show wordR 0b010001#6 0b10001#5 0#5 fs fd 0b001101#6 &&& rowTruncWD.mask = rowTruncWD.pattern
  rw [show (rowTruncWD.mask) = wordR 63#6 31#5 31#5 0#5 0#5 63#6 from rfl, wordR_and]
  simp only [BitVec.and_zero]
  rfl

theorem truncWS (fd fs) : Statement (.truncWS fd fs) := by
  show wordR 0b010001#6 0b10000#5 0#5 fs fd 0b001101#6 &&& rowTruncWS.mask = rowTruncWS.pattern
  rw [show (rowTruncWS.mask) = wordR 63#6 31#5 31#5 0#5 0#5 63#6 from rfl, wordR_and]
  simp only [BitVec.and_zero]
  rfl

end Sys2Proof.Laws.EncodeMatches
end

