-- ==== Sys2Proof/Tests/Slice0.lean ====
section
/-! SUPPORT. Tests. Every expected value is the spec's: the words of the example lines of 95_test_vectors.md section 1.2, and vectors
of 95_test_vectors.md and 96_test_vectors_fp_exceptions.md, one step each. A part shows, for every statement that has
hypotheses, a state and operands that meet them. -/

namespace Sys2Proof.Tests

open Sys2Proof Sys2Proof.Machine

/-! ### Well-formedness: its one check refuses, and only that term -/

theorem test_wellFormed_refuses_sll_zero : (Instr.sll 0 0 0).wellFormed = false := by decide

theorem test_wellFormed_accepts_neighbours :
    (Instr.sll 0 0 1).wellFormed = true ∧ (Instr.sll 1 0 0).wellFormed = true ∧ (Instr.sll 0 1 0).wellFormed = true ∧
      Instr.nop.wellFormed = true := by decide


/-! ### One step from a small state -/

/-- One piece of state: something to set before a step, or to find after it. -/
inductive Put where
  | x (r : Reg) (v : Word) | f (r : Reg) (v : Word) | cc (k : CondFlag) (b : Bool) | pc (v : Word) | hi (v : Word) | lo (v : Word)
  | badVAddr (v : Word) | status (v : Word) | cause (v : Word) | epc (v : Word) | byte (a : Nat) (b : Byte) | handler (h : Word)

def Put.on (s : State) : Put → State
  | .x r v => s.setX r v
  | .f r v => s.setF r v
  | .cc k b => s.setFlag k b
  | .pc v => s.jump v
  | .hi v => { s with hi := v }
  | .lo v => { s with lo := v }
  | .badVAddr v => { s with badVAddr := v }
  | .status v => { s with status := v }
  | .cause v => { s with cause := v }
  | .epc v => { s with epc := v }
  | .byte a b => { s with mem := s.mem.write a b }
  | .handler h => { s with launch := { s.launch with excHandler := some h } }

def Put.heldBy (s : State) : Put → Bool
  | .x r v => s.x r == v
  | .f r v => s.f r == v
  | .cc k b => s.flag k == b
  | .pc v => s.pc == v
  | .hi v => s.hi == v
  | .lo v => s.lo == v
  | .badVAddr v => s.badVAddr == v
  | .status v => s.status == v
  | .cause v => s.cause == v
  | .epc v => s.epc == v
  | .byte a b => s.mem.read a == b
  | .handler h => s.launch.excHandler == some h

/-- The state after reset with these pieces set. -/
def from' (ps : List Put) : State := ps.foldl Put.on State.reset

/-- The answer is a next state. -/
def isNext (r : Result) : Bool := match r with
  | .next _ => true
  | _ => false

/-- The instruction, from the state with `before` set, leads to a state where `after` is found. -/
def runs (i : Instr) (before after : List Put) : Bool :=
  match exec i (from' before) with
  | .next t => after.all (Put.heldBy t)
  | _ => false

/-- The word, as the first instruction from the state with `before` set, leads to a state where `after` is found. -/
def steps (w : Nat) (before after : List Put) : Bool :=
  match step ((from' before).withFetchWord 32 w) with
  | .next t => after.all (Put.heldBy t)
  | _ => false

/-- These pieces and the eight bytes of 95_test_vectors.md 2.4. -/
def withBytes8 (ps : List Put) : List Put :=
  .byte 0x10010000 0x11 :: .byte 0x10010001 0x22 :: .byte 0x10010002 0x33 :: .byte 0x10010003 0x44 ::
  .byte 0x10010004 0x55 :: .byte 0x10010005 0x66 :: .byte 0x10010006 0x77 :: .byte 0x10010007 0x88 :: ps

theorem test_runs_IntegerAlu_1 : [
    runs (.add 9 10 11) [.x 10 0x80000000, .x 11 0xFFFFFFFF, .x 9 0x00000055, .handler 0x80000180] [.pc 0x80000180, .status
      0x0000FF13, .cause 0x00000030, .epc 0x00400000],
    runs (.addi 9 10 0x7FFF) [.x 10 0x7FFF8000] [.x 9 0x7FFFFFFF, .pc 0x00400004],
    runs (.addiu 9 10 0xFF9C) [.x 10 0x80000063] [.x 9 0x7FFFFFFF, .pc 0x00400004],
    runs (.addu 9 10 11) [.x 10 0xFFFFFFFF, .x 11 1, .x 9 0x00000055] [.x 9 0, .pc 0x00400004],
    runs (.and 9 10 11) [.x 10 0xFF00FF00, .x 11 0x0FF00FF0] [.x 9 0x0F000F00, .pc 0x00400004],
    runs (.andi 9 10 100) [.x 10 0xFFFFFFFF] [.x 9 0x00000064, .pc 0x00400004],
    runs (.clo 9 10 0) [.x 10 0x7FFFFFFF, .x 9 0x00000055] [.x 9 0, .pc 0x00400004],
    runs (.clz 9 10 0) [.x 10 0x00010000] [.x 9 0x0000000F, .pc 0x00400004],
    runs (.lui 9 100) [.x 9 0xFFFFFFFF] [.x 9 0x00640000, .pc 0x00400004],
    runs (.movn 9 10 11) [.x 9 0x00000055, .x 10 0x00000077, .x 11 1] [.x 9 0x00000077, .pc 0x00400004],
    runs (.movz 9 10 11) [.x 9 0x00000055, .x 10 0x00000077, .x 11 0] [.x 9 0x00000077, .pc 0x00400004],
    runs .nop [.x 9 0x00000055] [.pc 0x00400004],
    runs (.nor 9 10 11) [.x 10 0xFF00FF00, .x 11 0x0FF00FF0] [.x 9 0x000F000F, .pc 0x00400004],
    runs (.or 9 10 11) [.x 10 0xFF00FF00, .x 11 0x0FF00FF0] [.x 9 0xFFF0FFF0, .pc 0x00400004],
    runs (.ori 9 10 100) [.x 10 0xFFFF0000] [.x 9 0xFFFF0064, .pc 0x00400004],
    runs (.sll 9 10 10) [.x 10 0x00300001] [.x 9 0xC0000400, .pc 0x00400004],
    runs (.sllv 9 10 11) [.x 10 1, .x 11 0xFFFFFFFF] [.x 9 0x80000000, .pc 0x00400004],
    runs (.slt 9 10 11) [.x 10 0xFFFFFFFF, .x 11 1] [.x 9 1, .pc 0x00400004]].all id = true := by decide +kernel

theorem test_runs_IntegerAlu_2 : [
    runs (.slti 9 10 0xFF9C) [.x 10 0xFFFFFF9C, .x 9 0x00000055] [.x 9 0, .pc 0x00400004],
    runs (.sltiu 9 10 0xFF9C) [.x 10 0xFFFFFFFF, .x 9 0x00000055] [.x 9 0, .pc 0x00400004],
    runs (.sltu 9 10 11) [.x 10 0xFFFFFFFF, .x 11 1, .x 9 0x00000055] [.x 9 0, .pc 0x00400004],
    runs (.sra 9 10 31) [.x 10 0x80000000] [.x 9 0xFFFFFFFF, .pc 0x00400004],
    runs (.srav 9 10 11) [.x 10 0xFFFFFF00, .x 11 0x00000024] [.x 9 0xFFFFFFF0, .pc 0x00400004],
    runs (.srl 9 10 10) [.x 10 0x80000000] [.x 9 0x00200000, .pc 0x00400004],
    runs (.srlv 9 10 11) [.x 10 0xFFFFFF00, .x 11 0x00000024] [.x 9 0x0FFFFFF0, .pc 0x00400004],
    runs (.sub 9 10 11) [.x 10 0xFFFFFFFF, .x 11 0x80000000] [.x 9 0x7FFFFFFF, .pc 0x00400004],
    runs (.subu 9 10 11) [.x 10 0x80000000, .x 11 1] [.x 9 0x7FFFFFFF, .pc 0x00400004],
    runs (.xor 9 10 11) [.x 10 0xFF00FF00, .x 11 0x0FF00FF0] [.x 9 0xF0F0F0F0, .pc 0x00400004],
    runs (.xori 9 10 100) [.x 10 0xFFFFFFFF] [.x 9 0xFFFFFF9B, .pc 0x00400004]].all id = true := by decide +kernel

theorem test_runs_MulDiv : [
    runs (.div 9 10) [.x 9 0xFFFFFFF9, .x 10 0xFFFFFFFE] [.hi 0xFFFFFFFF, .lo 3, .pc 0x00400004],
    runs (.divu 9 10) [.x 9 0xFFFFFFF9, .x 10 2] [.hi 1, .lo 0x7FFFFFFC, .pc 0x00400004],
    runs (.madd 9 10) [.x 9 0x7FFFFFFF, .x 10 0x7FFFFFFF, .hi 0x7FFFFFFF, .lo 0xFFFFFFFF] [.hi 0xBFFFFFFF, .lo 0, .pc 0x00400004],
    runs (.maddu 9 10) [.x 9 0xFFFFFFFF, .x 10 0xFFFFFFFF, .hi 0xFFFFFFFF, .lo 0xFFFFFFFF] [.hi 0xFFFFFFFE, .lo 0, .pc 0x00400004],
    runs (.mfhi 9) [.hi 0xCAFEBABE, .lo 0x11111111] [.x 9 0xCAFEBABE, .pc 0x00400004],
    runs (.mflo 9) [.hi 0xCAFEBABE, .lo 0x11111111] [.x 9 0x11111111, .pc 0x00400004],
    runs (.msub 9 10) [.x 9 1, .x 10 1, .hi 0, .lo 0] [.hi 0xFFFFFFFF, .lo 0xFFFFFFFF, .pc 0x00400004],
    runs (.msubu 9 10) [.x 9 0xFFFFFFFF, .x 10 1, .hi 0, .lo 0] [.hi 0xFFFFFFFF, .lo 1, .pc 0x00400004],
    runs (.mthi 9) [.x 9 0xCAFEBABE, .lo 0x00000022] [.hi 0xCAFEBABE, .lo 0x00000022, .pc 0x00400004],
    runs (.mtlo 9) [.x 9 0xCAFEBABE, .hi 0x00000011] [.hi 0x00000011, .lo 0xCAFEBABE, .pc 0x00400004],
    runs (.mul 9 10 11) [.x 10 0xFFFFFFFE, .x 11 3, .hi 0x00000011, .lo 0x00000022] [.x 9 0xFFFFFFFA, .hi 0xFFFFFFFF, .lo
      0xFFFFFFFA, .pc 0x00400004],
    runs (.mult 9 10) [.x 9 0xFFFFFFFF, .x 10 2] [.hi 0xFFFFFFFF, .lo 0xFFFFFFFE, .pc 0x00400004],
    runs (.multu 9 10) [.x 9 0xFFFFFFFF, .x 10 0xFFFFFFFF] [.hi 0xFFFFFFFE, .lo 1, .pc 0x00400004]].all id = true := by
  decide +kernel

theorem test_runs_BranchJump : [
    runs (.bc1f 1 3) [.cc 1 true] [.pc 0x00400004],
    runs (.bc1t 1 3) [.cc 1 true] [.pc 0x00400010],
    runs (.beq 9 10 0xFFFB) [.pc 0x00400020, .x 9 5, .x 10 5] [.pc 0x00400010],
    runs (.bgez 9 3) [.x 9 0x7FFFFFFF] [.pc 0x00400010],
    runs (.bgezal 9 3) [.x 9 0, .x 31 0x00000055] [.x 31 0x00400004, .pc 0x00400010],
    runs (.bgtz 9 3) [.x 9 1] [.pc 0x00400010],
    runs (.blez 9 3) [.x 9 0xFFFFFFFF] [.pc 0x00400010],
    runs (.bltz 9 3) [.x 9 0xFFFFFFFF] [.pc 0x00400010],
    runs (.bltzal 9 3) [.x 9 0xFFFFFFFF, .x 31 0x00000055] [.x 31 0x00400004, .pc 0x00400010],
    runs (.bne 9 10 3) [.x 9 5, .x 10 6] [.pc 0x00400010],
    runs (.j 8) [.pc 0x0FFFFFFC] [.pc 0x10000020],
    runs (.jal 0x100008) [.x 31 0x00000055] [.x 31 0x00400004, .pc 0x00400020],
    runs (.jalr 31 9 0) [.x 9 0x00400022] [.x 31 0x00400004, .pc 0x00400022],
    runs (.jr 9 0) [.x 9 0x00400022] [.pc 0x00400022]].all id = true := by decide +kernel

theorem test_runs_LoadStore : [
    runs (.lb 9 0xFF9C 10) (withBytes8 [.x 10 0x1001006B]) [.x 9 0xFFFFFF88, .pc 0x00400004],
    runs (.lbu 9 0xFF9C 10) (withBytes8 [.x 10 0x1001006B]) [.x 9 0x00000088, .pc 0x00400004],
    runs (.ldc1 2 0xFF9C 10) (withBytes8 [.x 10 0x10010064]) [.f 2 0x44332211, .f 3 0x88776655, .pc 0x00400004],
    runs (.lh 9 0xFF9C 10) (withBytes8 [.x 10 0x1001006A]) [.x 9 0xFFFF8877, .pc 0x00400004],
    runs (.lhu 9 0xFF9C 10) (withBytes8 [.x 10 0x1001006A]) [.x 9 0x00008877, .pc 0x00400004],
    runs (.ll 9 0xFF9C 10) (withBytes8 [.x 10 0x10010064]) [.x 9 0x44332211, .pc 0x00400004],
    runs (.lw 9 0xFF9C 10) (withBytes8 [.x 10 0x10010066, .x 9 0x00000055, .handler 0x80000180]) [.pc 0x80000180, .badVAddr
      0x10010002, .status 0x0000FF13, .cause 0x00000010, .epc 0x00400000],
    runs (.lwc1 1 0xFF9C 10) (withBytes8 [.x 10 0x10010068]) [.f 1 0x88776655, .pc 0x00400004],
    runs (.lwl 9 0xFF9C 10) (withBytes8 [.x 10 0x10010064, .x 9 0xAABBCCDD]) [.x 9 0x11BBCCDD, .pc 0x00400004],
    runs (.lwr 9 0xFF9C 10) (withBytes8 [.x 10 0x10010067, .x 9 0xAABBCCDD]) [.x 9 0xAABBCC44, .pc 0x00400004],
    runs (.sb 9 0xFF9C 10) (withBytes8 [.x 10 0x10010065, .x 9 0xAABBCCDD]) [.byte 0x10010001 0xDD, .pc 0x00400004],
    runs (.sc 9 0xFF9C 10) (withBytes8 [.x 10 0x10010064, .x 9 0xAABBCCDD]) [.x 9 1, .byte 0x10010000 0xDD, .byte 0x10010001
      0xCC, .byte 0x10010002 0xBB, .byte 0x10010003 0xAA, .pc 0x00400004],
    runs (.sdc1 2 0xFF9C 10) (withBytes8 [.x 10 0x10010064, .f 2 0, .f 3 0x400E0000]) [.byte 0x10010000 0, .byte 0x10010001 0,
      .byte 0x10010002 0, .byte 0x10010003 0, .byte 0x10010004 0, .byte 0x10010005 0, .byte 0x10010006 0x0E, .byte 0x10010007
      0x40, .pc 0x00400004],
    runs (.sh 9 0xFF9C 10) (withBytes8 [.x 10 0x10010066, .x 9 0xAABBCCDD]) [.byte 0x10010002 0xDD, .byte 0x10010003 0xCC, .pc
      0x00400004],
    runs (.sw 9 0xFF9C 10) (withBytes8 [.x 10 0x10010064, .x 9 0xAABBCCDD]) [.byte 0x10010000 0xDD, .byte 0x10010001 0xCC,
      .byte 0x10010002 0xBB, .byte 0x10010003 0xAA, .pc 0x00400004],
    runs (.swc1 1 0xFF9C 10) (withBytes8 [.x 10 0x10010064, .f 1 0x3FC00000]) [.byte 0x10010000 0, .byte 0x10010001 0, .byte
      0x10010002 0xC0, .byte 0x10010003 0x3F, .pc 0x00400004],
    runs (.swl 9 0xFF9C 10) (withBytes8 [.x 10 0x10010067, .x 9 0xAABBCCDD]) [.byte 0x10010000 0xDD, .byte 0x10010001 0xCC,
      .byte 0x10010002 0xBB, .byte 0x10010003 0xAA, .pc 0x00400004],
    runs (.swr 9 0xFF9C 10) (withBytes8 [.x 10 0x10010064, .x 9 0xAABBCCDD]) [.byte 0x10010000 0xDD, .byte 0x10010001 0xCC,
      .byte 0x10010002 0xBB, .byte 0x10010003 0xAA, .pc 0x00400004]].all id = true := by decide +kernel

theorem test_runs_TrapSystem : [
    runs (.brk 100) [.handler 0x80000180] [.pc 0x80000180, .status 0x0000FF13, .cause 0x00000024, .epc 0x00400000],
    runs .eret [.epc 0x00400022, .status 0x0000FF13] [.pc 0x00400022, .status 0x0000FF11],
    runs (.mfc0 9 12) [] [.x 9 0x0000FF11, .pc 0x00400004],
    runs (.mtc0 9 8) [.x 9 0xFFFFFFFF] [.badVAddr 0xFFFFFFFF, .pc 0x00400004],
    runs (.syscall 0) [.x 2 1, .x 4 5, .handler 0x80000180] [.pc 0x80000180, .status 0x0000FF13, .cause 0x00000020, .epc
      0x00400000],
    runs (.teq 9 10 0) [.x 9 5, .x 10 5] [.pc 0x00400000, .status 0x0000FF13, .cause 0x00000034, .epc 0x00400000],
    runs (.teqi 9 0xFF9C) [.x 9 0xFFFFFF9C] [.pc 0x00400000, .status 0x0000FF13, .cause 0x00000034, .epc 0x00400000],
    runs (.tge 9 10 0) [.x 9 1, .x 10 1] [.pc 0x00400000, .status 0x0000FF13, .cause 0x00000034, .epc 0x00400000],
    runs (.tgei 9 0xFF9C) [.x 9 0xFFFFFF9C] [.pc 0x00400000, .status 0x0000FF13, .cause 0x00000034, .epc 0x00400000],
    runs (.tgeiu 9 0xFF9C) [.x 9 0xFFFFFFFF] [.pc 0x00400000, .status 0x0000FF13, .cause 0x00000034, .epc 0x00400000],
    runs (.tgeu 9 10 0) [.x 9 0xFFFFFFFF, .x 10 1] [.pc 0x00400000, .status 0x0000FF13, .cause 0x00000034, .epc 0x00400000],
    runs (.tlt 9 10 0) [.x 9 0xFFFFFFFF, .x 10 1] [.pc 0x00400000, .status 0x0000FF13, .cause 0x00000034, .epc 0x00400000],
    runs (.tlti 9 0xFF9C) [.x 9 0xFFFFFF9B] [.pc 0x00400000, .status 0x0000FF13, .cause 0x00000034, .epc 0x00400000],
    runs (.tltiu 9 0xFF9C) [.x 9 1] [.pc 0x00400000, .status 0x0000FF13, .cause 0x00000034, .epc 0x00400000],
    runs (.tltu 9 10 0) [.x 9 1, .x 10 0xFFFFFFFF] [.pc 0x00400000, .status 0x0000FF13, .cause 0x00000034, .epc 0x00400000],
    runs (.tne 9 10 0) [.x 9 5, .x 10 6] [.pc 0x00400000, .status 0x0000FF13, .cause 0x00000034, .epc 0x00400000],
    runs (.tnei 9 0xFF9C) [.x 9 0] [.pc 0x00400000, .status 0x0000FF13, .cause 0x00000034, .epc 0x00400000]].all id = true :=
      by decide +kernel

theorem test_runs_FpArith : [
    runs (.absD 2 4) [.f 4 0, .f 5 0xBFF80000] [.f 2 0, .f 3 0x3FF80000, .pc 0x00400004],
    runs (.absS 0 1) [.f 1 0xFF800000] [.f 0 0x7F800000, .pc 0x00400004],
    runs (.addD 2 4 6) [.f 4 0xFFFFFFFF, .f 5 0x7FEFFFFF, .f 6 0xFFFFFFFF, .f 7 0x7FEFFFFF] [.f 2 0, .f 3 0x7FF00000, .pc
      0x00400004],
    runs (.addS 0 1 3) [.f 1 0x7F7FFFFF, .f 3 0x7F7FFFFF] [.f 0 0x7F800000, .pc 0x00400004],
    runs (.divD 2 4 6) [.f 4 0, .f 5 0x3FF00000, .f 6 0, .f 7 0x40080000] [.f 2 0x55555555, .f 3 0x3FD55555, .pc 0x00400004],
    runs (.divS 0 1 3) [.f 1 0x3F800000, .f 3 0x40400000] [.f 0 0x3EAAAAAB, .pc 0x00400004],
    runs (.mulD 2 4 6) [.f 4 0, .f 5 0x3FF80000, .f 6 0, .f 7 0x40000000] [.f 2 0, .f 3 0x40080000, .pc 0x00400004],
    runs (.mulS 0 1 3) [.f 1 0x7F7FFFFF, .f 3 0xC0000000] [.f 0 0xFF800000, .pc 0x00400004],
    runs (.negD 2 4) [.f 4 0, .f 5 0x3FF80000] [.f 2 0, .f 3 0xBFF80000, .pc 0x00400004],
    runs (.negS 0 1) [.f 1 0x3F800000] [.f 0 0xBF800000, .pc 0x00400004],
    runs (.sqrtD 2 4) [.f 4 0, .f 5 0x40000000] [.f 2 0x667F3BCD, .f 3 0x3FF6A09E, .pc 0x00400004],
    runs (.sqrtS 0 1) [.f 1 0x40000000] [.f 0 0x3FB504F3, .pc 0x00400004],
    runs (.subD 2 4 6) [.f 4 0, .f 5 0x3FF00000, .f 6 0, .f 7 0x40000000] [.f 2 0, .f 3 0xBFF00000, .pc 0x00400004],
    runs (.subS 0 1 3) [.f 1 0x3F800000, .f 3 0x3F800000] [.f 0 0, .pc 0x00400004]].all id = true := by decide +kernel

theorem test_runs_FpMove_1 : [
    runs (.cEqD 1 2 4) [.f 2 0, .f 3 0x3FF80000, .f 4 0, .f 5 0x7FF80000, .cc 1 true] [.cc 1 false, .pc 0x00400004],
    runs (.cEqS 0 0 1) [.f 0 0x7FC00000, .f 1 0x7FC00000, .cc 0 true] [.cc 0 false, .pc 0x00400004],
    runs (.cLeD 0 2 4) [.f 2 0, .f 3 0x3FF00000, .f 4 0, .f 5 0x3FF00000] [.cc 0 true, .pc 0x00400004],
    runs (.cLeS 1 0 1) [.f 0 0x7FC00000, .f 1 0x7F800000, .cc 1 true] [.cc 1 false, .pc 0x00400004],
    runs (.cLtD 0 2 4) [.f 2 0, .f 3 0xBFF00000, .f 4 0, .f 5 0x3FF00000] [.cc 0 true, .pc 0x00400004],
    runs (.cLtS 0 0 1) [.f 0 0xFF800000, .f 1 0xFF7FFFFF] [.cc 0 true, .pc 0x00400004],
    runs (.ceilWD 1 2) [.f 2 0xFFE00000, .f 3 0x41DFFFFF] [.f 1 0x7FFFFFFF, .pc 0x00400004],
    runs (.ceilWS 0 1) [.f 1 0xC02CCCCD] [.f 0 0xFFFFFFFE, .pc 0x00400004],
    runs (.cvtDS 2 1) [.f 1 0xFF800000] [.f 2 0, .f 3 0xFFF00000, .pc 0x00400004],
    runs (.cvtDW 2 2) [.f 2 0x7FFFFFFF] [.f 2 0xFFC00000, .f 3 0x41DFFFFF, .pc 0x00400004],
    runs (.cvtSD 1 2) [.f 2 0xEFFFFFFF, .f 3 0x47EFFFFF] [.f 1 0x7F7FFFFF, .pc 0x00400004],
    runs (.cvtSW 0 1) [.f 1 0xFFFFFFFF] [.f 0 0xBF800000, .pc 0x00400004],
    runs (.floorWD 1 2) [.f 2 0xFFE00000, .f 3 0x41DFFFFF] [.f 1 0x7FFFFFFF, .pc 0x00400004],
    runs (.floorWS 0 1) [.f 1 0xC02CCCCD] [.f 0 0xFFFFFFFD, .pc 0x00400004],
    runs (.mfc1 9 1) [.f 1 0x3F800000] [.x 9 0x3F800000, .pc 0x00400004],
    runs (.movD 2 4) [.f 4 1, .f 5 0x7FF00000] [.f 2 1, .f 3 0x7FF00000, .pc 0x00400004],
    runs (.movS 0 1) [.f 1 0x7FC00001] [.f 0 0x7FC00001, .pc 0x00400004],
    runs (.movf 9 10 0) [.x 10 7, .x 9 0x00000055, .cc 0 true] [.x 9 0x00000055, .pc 0x00400004]].all id = true := by decide +kernel

theorem test_runs_FpMove_2 : [
    runs (.movfD 2 4 0) [.f 4 0, .f 5 0x3FF80000, .f 2 0x00000055, .f 3 0, .cc 0 false] [.f 2 0, .f 3 0x3FF80000, .pc 0x00400004],
    runs (.movfS 0 1 0) [.f 1 0x3F800000, .f 0 0x00000055, .cc 0 false] [.f 0 0x3F800000, .pc 0x00400004],
    runs (.movnD 2 4 11) [.f 4 0, .f 5 0x3FF80000, .f 2 0x00000055, .f 3 0, .x 11 1] [.f 2 0, .f 3 0x3FF80000, .pc 0x00400004],
    runs (.movnS 0 1 11) [.f 1 0x3F800000, .f 0 0x00000055, .x 11 0x80000000] [.f 0 0x3F800000, .pc 0x00400004],
    runs (.movt 9 10 1) [.x 10 7, .x 9 0x00000055, .cc 0 true, .cc 1 false] [.x 9 0x00000055, .pc 0x00400004],
    runs (.movtD 2 4 0) [.f 4 0, .f 5 0x3FF80000, .f 2 0x00000055, .f 3 0, .cc 0 true] [.f 2 0, .f 3 0x3FF80000, .pc 0x00400004],
    runs (.movtS 0 1 0) [.f 1 0x3F800000, .f 0 0x00000055, .cc 0 true] [.f 0 0x3F800000, .pc 0x00400004],
    runs (.movzD 2 4 11) [.f 4 0, .f 5 0x3FF80000, .f 2 0x00000055, .f 3 0, .x 11 0] [.f 2 0, .f 3 0x3FF80000, .pc 0x00400004],
    runs (.movzS 0 1 11) [.f 1 0x3F800000, .f 0 0x00000055, .x 11 0] [.f 0 0x3F800000, .pc 0x00400004],
    runs (.mtc1 9 1) [.x 9 0x7FC00001] [.f 1 0x7FC00001, .pc 0x00400004],
    runs (.roundWD 1 2) [.f 2 0xFFE00000, .f 3 0x41DFFFFF] [.f 1 0x7FFFFFFF, .pc 0x00400004],
    runs (.roundWS 0 1) [.f 1 0xC02CCCCD] [.f 0 0xFFFFFFFD, .pc 0x00400004],
    runs (.truncWD 1 2) [.f 2 0xFFE00000, .f 3 0x41DFFFFF] [.f 1 0x7FFFFFFF, .pc 0x00400004],
    runs (.truncWS 0 1) [.f 1 0xC02CCCCD] [.f 0 0xFFFFFFFE, .pc 0x00400004]].all id = true := by decide +kernel

/-- Where the two candidates of CVT_W_MODE agree the result is theirs (46_fp_compare_convert_move.md R306): 2.0 and -3.0. -/
theorem test_steps_cvtWS_cvtWD :
    steps 0x46000824 [.f 1 0x40000000] [.f 0 2, .pc 0x00400004] = true ∧
    steps 0x46201064 [.f 2 0, .f 3 0xC0080000] [.f 1 0xFFFFFFFD, .pc 0x00400004] = true := by decide +kernel

/-- 0 / -0: some NaN is drawn into f0, and everything else is as it was. -/
theorem test_steps_divS_of_zeros :
    steps 0x46030803 [.f 1 0, .f 3 0x80000000, .x 9 7] [.x 9 7, .f 1 0, .f 3 0x80000000, .pc 0x00400004] = true := by decide +kernel

/-- A division by zero goes on. -/
theorem test_steps_div_by_zero : steps 0x012A001A [.x 9 7] [.x 9 7, .x 10 0, .pc 0x00400004] = true := by decide +kernel

/-- 96_test_vectors_fp_exceptions.md 2.8: a reserved word, with a handler. -/
theorem test_steps_reserved :
    steps 0xFFFFFFFF [.handler 0x80000180] [.pc 0x80000180, .status 0x0000FF13, .cause 0x28, .epc 0x00400000] = true := by
  decide +kernel

/-- A program of two words, one byte of data and a handler of one word, loaded as 70_reset_and_hazards.md R381 says. -/
def loaded : State :=
  ({ words := [0x014B4820, 0x00000000], data := cellsFrom defaultDataBase.toNat [0x7F],
     handler := some ⟨defaultHandlerBase, [0x42000018]⟩ } : Program).launchState State.reset

/-- Each word where it is fetched, the data byte, END, EXC_HANDLER, and nothing marked text but the three words. -/
theorem test_load_places :
    loaded.mem.read32 0x00400000 = 0x014B4820 ∧ loaded.mem.read32 0x00400004 = 0 ∧ loaded.mem.read32 0x80000180 = 0x42000018 ∧
      loaded.mem.read 0x10010000 = 0x7F ∧ loaded.launch.endPc = 0x00400008 ∧ loaded.launch.excHandler = some 0x80000180 ∧
      [0x003FFFFF, 0x00400000, 0x00400007, 0x00400008, 0x8000017F, 0x80000180, 0x80000183, 0x80000184].map loaded.launch.isText =
        [false, true, true, false, false, true, true, false] ∧ loaded.Inv := by decide +kernel

/-- Its first step runs its first word. -/
theorem test_load_first_step : (fetch loaded).toOption = some (.add 9 10 11) := by decide +kernel

/-- A service whose script is used up gives its constant answer, and stays defined. -/
theorem test_syscall_stays_defined :
    let b : EnvAnswer := ⟨some 3, none, none, none, none, [], false⟩;
    let s := { from' [.x 2 1] with env := [⟨9, [], none⟩, ⟨1, [], some b⟩] };
    (s.serve.map fun t => (t.x 2, t.pc, t.env)) = some (3, 0x00400004, s.env) := by decide +kernel

/-! ### Every statement's hypotheses are met somewhere -/

theorem next_of_isNext {r : Result} (h : isNext r = true) : ∃ t, r = .next t := by
  cases r with
  | next t => exact ⟨t, rfl⟩
  | fault f => cases h
  | refused f => cases h

theorem test_witness_DecodeEncode :
    (Instr.sll 0 0 1).wellFormed = true ∧ (Instr.movtD 2 4 7).wellFormed = true ∧ (Instr.syscall 0xFFFFF).wellFormed = true := by
  decide

theorem test_witness_EncodeDecode : decodeWord 0x01200048 = .ok (.jr 9 1) ∧ decodeWord 0 = .ok .nop := by
  decide +kernel

theorem test_witness_RowsSelectOnce :
    ∃ a ∈ opcodeRows, ∃ b ∈ opcodeRows, a.selects 0x014B4820 = true ∧ b.selects 0x014B4820 = true := by
  decide +kernel

theorem test_witness_StepRunsDecodedInstruction :
    let s := State.reset.withFetchWord 32 0x014B4820;
    s.run = .running ∧ s.pc ≠ s.launch.endPc ∧ s.pc.toNat % 4 = 0 ∧ s.launch.isText s.pc.toNat = true ∧
      decode s.fetchBytes = .ok (.add 9 10 11, []) := by
  decide +kernel

/-- A misaligned pc, an aligned pc outside every image, a word that no row selects, an ended run, and pc = END. -/
theorem test_witness_StepChecksInOrder :
    (let s := from' [.pc 0x00400002]; s.run = .running ∧ s.pc ≠ s.launch.endPc ∧ s.pc.toNat % 4 ≠ 0) ∧
    (let s := from' [.pc 0x00400004];
      s.run = .running ∧ s.pc ≠ s.launch.endPc ∧ s.pc.toNat % 4 = 0 ∧ s.launch.isText s.pc.toNat = false) ∧
    (let s := State.reset.withFetchWord 32 0xFFFFFFFF;
      s.run = .running ∧ s.pc ≠ s.launch.endPc ∧ s.pc.toNat % 4 = 0 ∧ s.launch.isText s.pc.toNat = true ∧
        ∀ r ∈ opcodeRows, r.selects (s.mem.read32 s.pc.toNat) = false) ∧
    { State.reset with run := .ended .exit }.run = .ended .exit ∧
    (State.reset.run = .running ∧ State.reset.pc = State.reset.launch.endPc) := by
  decide +kernel

theorem test_witness_StepKeepsInvariant :
    (State.reset.withFetchWord 32 0xAD49FF9C).Inv ∧ ∃ t, step (State.reset.withFetchWord 32 0xAD49FF9C) = .next t :=
  ⟨by decide +kernel, next_of_isNext (by decide +kernel)⟩

/-- A store next to the last byte that is not writable. -/
theorem test_witness_StepKeepsReadOnlyBytes :
    let s := (from' [.x 10 0x10000064]).withFetchWord 32 0xAD49FF9C;
    (∃ t, step s = .next t) ∧ s.launch.writable 0x0FFFFFFF = false ∧ s.launch.writable 0x10000000 = true :=
  ⟨next_of_isNext (by decide +kernel), by decide +kernel, by decide +kernel⟩

theorem test_witness_HiLoWriters :
    (∃ t, exec (.mult 9 10) State.reset = .next t) ∧ (∃ t, exec (.mthi 9) State.reset = .next t) ∧
      (∃ t, exec (.mtlo 9) State.reset = .next t) ∧ (∃ t, exec (.add 9 10 11) State.reset = .next t) :=
  ⟨next_of_isNext (by decide), next_of_isNext (by decide), next_of_isNext (by decide), next_of_isNext (by decide)⟩

theorem test_witness_FlagWriters :
    (∃ t, exec (.cEqS 7 0 1) State.reset = .next t) ∧ (6 : CondFlag) ≠ 7 ∧ ∃ t, exec (.movf 9 10 0) State.reset = .next t :=
  ⟨next_of_isNext (by decide +kernel), by decide, next_of_isNext (by decide +kernel)⟩

theorem test_witness_Cop0Writers :
    (∃ t, exec .nop State.reset = .next t) ∧ (∃ t, exec (.mtc0 9 12) State.reset = .next t) ∧
      (∃ t, exec .eret State.reset = .next t) ∧ ∃ t, exec (.brk 0) State.reset = .next t :=
  ⟨next_of_isNext (by decide), next_of_isNext (by decide), next_of_isNext (by decide), next_of_isNext (by decide)⟩

/-- Sums and differences at both ends of the range and one past them. -/
theorem test_witness_OverflowArithmetic :
    (let s := from' [.x 9 0x7FFFFFFE, .x 10 1, .x 11 0x80000001, .x 12 0xFFFFFFFF];
      (s.x 9).toInt + (s.x 10).toInt = 2 ^ 31 - 1 ∧ (s.x 11).toInt + (s.x 12).toInt = -2 ^ 31 ∧
      (s.x 9).toInt + (1 : Imm16).toInt = 2 ^ 31 - 1 ∧ (s.x 11).toInt - (s.x 10).toInt = -2 ^ 31) ∧
    (let s := from' [.x 9 0x7FFFFFFF, .x 10 1, .x 11 0x80000000, .x 12 0xFFFFFFFF];
      (s.x 9).toInt + (s.x 10).toInt = 2 ^ 31 ∧ (s.x 11).toInt + (s.x 12).toInt = -2 ^ 31 - 1 ∧
      (s.x 9).toInt + (1 : Imm16).toInt = 2 ^ 31 ∧ (s.x 11).toInt + (0xFFFF : Imm16).toInt = -2 ^ 31 - 1 ∧
      (s.x 11).toInt - (s.x 10).toInt = -2 ^ 31 - 1 ∧ (s.x 9).toInt - (s.x 12).toInt = 2 ^ 31) := by
  decide +kernel

/-- A divisor that is not 0: 1, and -1 under the dividend -2^31. -/
theorem test_witness_Divide :
    let s := from' [.x 9 0x80000000, .x 10 0xFFFFFFFF, .x 11 1];
    s.x 10 ≠ 0 ∧ s.x 11 ≠ 0 ∧ s.x 9 = 0x80000000 ∧ s.x 10 = 0xFFFFFFFF := by decide +kernel

theorem test_witness_DivideByZero : State.reset.x 10 = 0 := by decide

theorem test_witness_Jumps : ((31 : Reg) ≠ 9 ∨ (31 : Reg) = 0) ∧ ((0 : Reg) ≠ 0 ∨ (0 : Reg) = 0) ∧ (1 : Reg) ≠ 0 := by decide

/-- The first readable address, 0x00400000, and the last ones of kernel data. -/
theorem test_witness_WordLoads :
    (let s := from' [.x 9 0x00400000];
      (s.ea 0 9).toNat % 4 = 0 ∧ ∀ k, k < 4 → s.launch.readable ((s.ea 0 9).toNat + k) = true) ∧
    (let s := from' [.x 9 0xFFFEFFF8];
      (30 : Reg).toNat % 2 = 0 ∧ (s.ea 0 9).toNat % 8 = 0 ∧
        ∀ k, k < 8 → s.launch.readable ((s.ea 0 9).toNat + k) = true) := by
  decide +kernel

theorem test_witness_NarrowLoads :
    (let s := from' [.x 9 0x00400000]; s.launch.readable (s.ea 0 9).toNat = true) ∧
    (let s := from' [.x 9 0xFFFEFFFE];
      (s.ea 0 9).toNat % 2 = 0 ∧ ∀ k, k < 2 → s.launch.readable ((s.ea 0 9).toNat + k) = true) := by
  decide +kernel

/-- lwl at the first and lwr at the last byte of a word, and both with all four bytes. -/
theorem test_witness_PartialLoads :
    [0x00400000, 0x00400003, 0xFFFEFFFC, 0xFFFEFFFF].all (fun a =>
      let s := from' [.x 9 (BitVec.ofNat 32 a)];
      decide ((∀ k, k < (s.ea 0 9).toNat % 4 + 1 → s.launch.readable (wordBase (s.ea 0 9) + k) = true) ∧
        ∀ k, k < 4 - (s.ea 0 9).toNat % 4 → s.launch.readable ((s.ea 0 9).toNat + k) = true)) = true := by
  decide +kernel

/-- The first writable address, 0x10000000, for every width, and the last ones of user data. -/
theorem test_witness_Stores :
    State.reset.mem.wf ∧
    (let s := from' [.x 9 0x10000000];
      (30 : Reg).toNat % 2 = 0 ∧ (s.ea 0 9).toNat % 2 = 0 ∧ (s.ea 0 9).toNat % 4 = 0 ∧ (s.ea 0 9).toNat % 8 = 0 ∧
        ∀ k, k < 8 → s.launch.writable ((s.ea 0 9).toNat + k) = true) ∧
    (let s := from' [.x 9 0x7FFFFFFF];
      s.mem.wf ∧ ∀ k, k < 1 → s.launch.writable ((s.ea 0 9).toNat + k) = true) := by
  decide +kernel

theorem test_witness_PartialStores :
    State.reset.mem.wf ∧ [0x10000000, 0x10000003, 0x7FFFFFFC, 0x7FFFFFFF].all (fun a =>
      let s := from' [.x 9 (BitVec.ofNat 32 a)];
      decide (s.mem.wf ∧ (∀ k, k < (s.ea 0 9).toNat % 4 + 1 → s.launch.writable (wordBase (s.ea 0 9) + k) = true) ∧
        ∀ k, k < 4 - (s.ea 0 9).toNat % 4 → s.launch.writable ((s.ea 0 9).toNat + k) = true)) = true := by
  decide +kernel

/-- Misaligned by one and by half the width; the last address below the readable text and the first of memory-mapped I/O. -/
theorem test_witness_LoadsRaise :
    (let s := from' [.x 9 0x10010001]; (s.ea 0 9).toNat % 2 ≠ 0 ∧ (s.ea 0 9).toNat % 4 ≠ 0) ∧
    (let s := from' [.x 9 0x10010004]; (30 : Reg).toNat % 2 = 0 ∧ (s.ea 0 9).toNat % 8 ≠ 0) ∧
    [0x003FFFFF, 0xFFFF0000, 0xFFFFFFFF].all (fun a =>
      let s := from' [.x 9 (BitVec.ofNat 32 a)];
      decide (s.launch.readable ((s.ea 0 9).toNat + 0) = false ∧
        (∃ k, k < (s.ea 0 9).toNat % 4 + 1 ∧ s.launch.readable (wordBase (s.ea 0 9) + k) = false) ∧
        ∃ k, k < 4 - (s.ea 0 9).toNat % 4 ∧ s.launch.readable ((s.ea 0 9).toNat + k) = false)) = true := by
  decide +kernel

theorem test_witness_StoresRaise :
    (let s := from' [.x 9 0x10010001]; (s.ea 0 9).toNat % 2 ≠ 0 ∧ (s.ea 0 9).toNat % 4 ≠ 0) ∧
    (let s := from' [.x 9 0x10010004]; (30 : Reg).toNat % 2 = 0 ∧ (s.ea 0 9).toNat % 8 ≠ 0) ∧
    [0x0FFFFFFF, 0x80000000, 0xFFFF0000].all (fun a =>
      let s := from' [.x 9 (BitVec.ofNat 32 a)];
      decide (s.launch.writable ((s.ea 0 9).toNat + 0) = false ∧
        (∃ k, k < (s.ea 0 9).toNat % 4 + 1 ∧ s.launch.writable (wordBase (s.ea 0 9) + k) = false) ∧
        ∃ k, k < 4 - (s.ea 0 9).toNat % 4 ∧ s.launch.writable ((s.ea 0 9).toNat + k) = false)) = true := by
  decide +kernel

theorem test_witness_StoreThenLoad :
    let s := from' [.x 9 0x10000000, .x 10 0xA1B2C3D4];
    s.mem.wf ∧ (11 : Reg) ≠ 0 ∧ 3 < 4 ∧ (s.ea 0 9).toNat % 4 = 0 ∧
      (∀ k, k < 4 → s.launch.writable ((s.ea 0 9).toNat + k) = true) ∧
      (∀ k, k < 4 → s.launch.readable ((s.ea 0 9).toNat + k) = true) ∧ (s.ea 3 9).toNat = (s.ea 0 9).toNat + 3 := by
  decide +kernel

/-- For each of the six, operands on either side: 5 and 5, -1 and 1, 1 and -1. -/
theorem test_witness_RegisterTraps :
    let s := from' [.x 9 5, .x 10 5, .x 11 0xFFFFFFFF, .x 12 1];
    (s.x 9 = s.x 10 ∧ ¬s.x 9 = s.x 11) ∧
      ((s.x 10).toInt ≤ (s.x 9).toInt ∧ ¬(s.x 12).toInt ≤ (s.x 11).toInt) ∧
      ((s.x 12).toNat ≤ (s.x 11).toNat ∧ ¬(s.x 11).toNat ≤ (s.x 12).toNat) ∧
      ((s.x 11).toInt < (s.x 12).toInt ∧ ¬(s.x 9).toInt < (s.x 10).toInt) ∧
      ((s.x 12).toNat < (s.x 11).toNat ∧ ¬(s.x 9).toNat < (s.x 10).toNat) ∧ (s.x 9 ≠ s.x 11 ∧ ¬s.x 9 ≠ s.x 10) := by
  decide +kernel

/-- The immediate -100 against itself, its zero extension, and its neighbours. -/
theorem test_witness_ImmediateTraps :
    let s := from' [.x 9 0xFFFFFF9C, .x 10 0x0000FF9C, .x 11 0xFFFFFF9B];
    let imm : Imm16 := 0xFF9C
    ((s.x 9).toInt = imm.toInt ∧ (s.x 10).toInt ≠ imm.toInt) ∧ (imm.toInt ≤ (s.x 9).toInt ∧ ¬imm.toInt ≤ (s.x 11).toInt) ∧
      ((BitVec.ofInt 32 imm.toInt).toNat ≤ (s.x 9).toNat ∧ ¬(BitVec.ofInt 32 imm.toInt).toNat ≤ (s.x 11).toNat) ∧
      ((s.x 11).toInt < imm.toInt ∧ ¬(s.x 9).toInt < imm.toInt) ∧
      ((s.x 11).toNat < (BitVec.ofInt 32 imm.toInt).toNat ∧ ¬(s.x 9).toNat < (BitVec.ofInt 32 imm.toInt).toNat) := by
  decide +kernel

theorem test_witness_TrapEntry :
    (let s := from' [.handler 0x80000180]; s.exl = false ∧ s.launch.excHandler = some 0x80000180) ∧
    State.reset.exl = false ∧ State.reset.launch.excHandler = none := by decide +kernel

theorem test_witness_NestedException :
    (from' [.status 0x0000FF13]).status.getLsbD 1 = true ∧ State.reset.status.getLsbD 1 = false := by decide +kernel

theorem test_witness_ExceptionReturn :
    let s := from' [.handler 0x80000180];
    s.exl = false ∧ s.launch.excHandler = some 0x80000180 := by decide +kernel

theorem test_witness_BreakRaises :
    (let s := from' [.handler 0x80000180]; s.exl = false ∧ s.launch.excHandler = some 0x80000180) ∧
    State.reset.exl = false ∧ State.reset.launch.excHandler = none := by decide +kernel

/-- Service 10; a defined service with a script, with a constant answer that ends the run, and with neither; a service that is not
defined, with a handler and without. -/
theorem test_witness_SystemCall :
    let a : EnvAnswer := ⟨some 7, none, none, none, none, [(0x10010000, 1), (0x10010000, 2)], false⟩;
    let b : EnvAnswer := ⟨none, none, none, none, none, [], true⟩;
    let env : List EnvService := [⟨5, [a], none⟩, ⟨17, [], some b⟩, ⟨9, [], none⟩];
    let find := fun n : Word => env.find? (fun c => c.number = n);
    (from' [.x 2 10]).x 2 = 10 ∧
    (let s := { from' [.x 2 5] with env := env }; s.x 2 ≠ 10 ∧ s.mem.wf ∧ find (s.x 2) = some ⟨5, [a], none⟩) ∧
    (let s := { from' [.x 2 17] with env := env }; s.x 2 ≠ 10 ∧ find (s.x 2) = some ⟨17, [], some b⟩) ∧
    (let s := { from' [.x 2 9] with env := env }; s.x 2 ≠ 10 ∧ find (s.x 2) = some ⟨9, [], none⟩) ∧
    (let s := { from' [.x 2 99, .handler 0x80000180] with env := env };
      s.x 2 ≠ 10 ∧ (∀ e ∈ s.env, e.number ≠ s.x 2) ∧ s.exl = false ∧ s.launch.excHandler = some 0x80000180) ∧
    (let s := from' [.x 2 99];
      s.x 2 ≠ 10 ∧ (∀ e ∈ s.env, e.number ≠ s.x 2) ∧ s.exl = false ∧ s.launch.excHandler = none) := by
  decide +kernel

theorem test_witness_UnknownCop0Register :
    (11 : Reg) ≠ 8 ∧ (11 : Reg) ≠ 12 ∧ (11 : Reg) ≠ 13 ∧ (11 : Reg) ≠ 14 ∧
      (15 : Reg) ≠ 8 ∧ (15 : Reg) ≠ 12 ∧ (15 : Reg) ≠ 13 ∧ (15 : Reg) ≠ 14 := by decide

theorem test_witness_OddDoubleRegister : (1 : Reg).toNat % 2 = 1 ∧ (31 : Reg).toNat % 2 = 1 := by decide

/-- Even registers, the lowest and the highest: for FloatArithmetic, Compares, ConvertToWord, ConvertToWordOpenMode,
ConvertFormats, FloatMoves. -/
theorem test_witness_FloatArithmetic : (0 : Reg).toNat % 2 = 0 ∧ (2 : Reg).toNat % 2 = 0 ∧ (30 : Reg).toNat % 2 = 0 := by decide

theorem test_witness_SignOperations :
    (0 : Reg).toNat % 2 = 0 ∧ (30 : Reg).toNat % 2 = 0 ∧ isNan32 0x7FC00000 = true ∧ isNan32 0x80000000 = false ∧
      isNan64 0x7FF8000000000000 = true ∧ isNan64 0xFFF0000000000000 = false := by decide +kernel

/-- In both formats, the greatest finite number and one past the threshold: the two sides of the one condition. -/
theorem test_witness_RoundsToNearest :
    ((2 ^ 24 - 1 : Nat) ≠ 0 ∧ single.decode (single.encode true (2 ^ 24 - 1) 104 false) = .fin true (2 ^ 24 - 1) 104 ∧
      single.decode (single.encode true (2 ^ 24 - 1) 105 false) = .inf true) ∧
    ((2 ^ 53 - 1 : Nat) ≠ 0 ∧ double.decode (double.encode true (2 ^ 53 - 1) 971 false) = .fin true (2 ^ 53 - 1) 971 ∧
      double.decode (double.encode true (2 ^ 53 - 1) 972 false) = .inf true) := by decide +kernel

/-- In both formats the least number over the greatest; and a quotient that lies half way between two patterns, 3 * 2^-149 / 2. -/
theorem test_witness_QuotientAndRoot :
    (single.decode 0x00000001 = .fin false 1 (-149) ∧ single.decode 0xFF7FFFFF = .fin true (2 ^ 24 - 1) 104 ∧
      1 ≠ 0 ∧ (2 ^ 24 - 1 : Nat) ≠ 0) ∧
    (double.decode 0x0000000000000001 = .fin false 1 (-1074) ∧
      double.decode 0xFFEFFFFFFFFFFFFF = .fin true (2 ^ 53 - 1) 971 ∧ (2 ^ 53 - 1 : Nat) ≠ 0) ∧
    single.div (single.decode 0x00000003) (single.decode 0x40000000) = some 0x00000002 := by
  decide +kernel

theorem test_witness_FormatRoundTrip :
    isNan32 0x80000001 = false ∧ isNan32 0xFF800000 = false ∧ isNan64 0x8000000000000001 = false ∧
      isNan64 0x7FF0000000000000 = false := by decide +kernel

theorem test_witness_SpecialResults : (1 : Nat) ≠ 0 := by decide

theorem test_witness_Compares : (0 : Reg).toNat % 2 = 0 ∧ (30 : Reg).toNat % 2 = 0 := by decide

/-- Even registers; in range at both ends, and one past each. -/
theorem test_witness_ConvertToWord :
    (30 : Reg).toNat % 2 = 0 ∧ roundToInt .towardZero true 1 31 = -2 ^ 31 ∧
      roundToInt .towardZero false (2 ^ 31 - 1) 0 = 2 ^ 31 - 1 ∧ roundToInt .towardNegInf true (2 ^ 32 + 1) (-1) = -2 ^ 31 - 1 ∧
      roundToInt .towardZero false 1 31 = 2 ^ 31 := by decide +kernel

/-- An integer at either end of the range: the value of 1 * 2^31 with a minus sign, and of 2^31 - 1. -/
theorem test_witness_ConvertToWordOpenMode :
    (30 : Reg).toNat % 2 = 0 ∧ finiteValue true 1 31 = ((-2 ^ 31 : Int) : ℚ) ∧
      finiteValue false (2 ^ 31 - 1) 0 = ((2 ^ 31 - 1 : Int) : ℚ) := by
  refine ⟨by decide, ?_, ?_⟩ <;> norm_num [finiteValue]

/-- Even registers, and a finite single. -/
theorem test_witness_ConvertFormats :
    (0 : Reg).toNat % 2 = 0 ∧ (30 : Reg).toNat % 2 = 0 ∧ b32 (State.reset.f 1) = .fin false 0 (-149) := by decide +kernel

theorem test_witness_FloatMoves : (0 : Reg).toNat % 2 = 0 ∧ (30 : Reg).toNat % 2 = 0 := by decide

/-! ### Decoding: the words of the example lines, one for every instruction (95_test_vectors.md 1.2) -/

/-- The words and the instructions they stand for. -/
def decodes (ps : List (Nat × Instr)) : Bool := ps.all fun p => decodeTableWord 32 p.1 == some p.2

theorem test_decode_IntegerAlu : decodes [
    (0x014B4820, .add 9 10 11),
    (0x2149FF9C, .addi 9 10 0xFF9C),
    (0x2549FF9C, .addiu 9 10 0xFF9C),
    (0x014B4821, .addu 9 10 11),
    (0x014B4824, .and 9 10 11),
    (0x31490064, .andi 9 10 100),
    (0x71404821, .clo 9 10 0),
    (0x71404820, .clz 9 10 0),
    (0x3C090064, .lui 9 100),
    (0x014B480B, .movn 9 10 11),
    (0x014B480A, .movz 9 10 11),
    (0x00000000, .nop),
    (0x014B4827, .nor 9 10 11),
    (0x014B4825, .or 9 10 11),
    (0x35490064, .ori 9 10 100),
    (0x000A4A80, .sll 9 10 10),
    (0x016A4804, .sllv 9 10 11),
    (0x014B482A, .slt 9 10 11),
    (0x2949FF9C, .slti 9 10 0xFF9C),
    (0x2D49FF9C, .sltiu 9 10 0xFF9C),
    (0x014B482B, .sltu 9 10 11),
    (0x000A4A83, .sra 9 10 10),
    (0x016A4807, .srav 9 10 11),
    (0x000A4A82, .srl 9 10 10),
    (0x016A4806, .srlv 9 10 11),
    (0x014B4822, .sub 9 10 11),
    (0x014B4823, .subu 9 10 11),
    (0x014B4826, .xor 9 10 11),
    (0x39490064, .xori 9 10 100)] = true := by decide +kernel

theorem test_decode_MulDiv : decodes [
    (0x012A001A, .div 9 10),
    (0x012A001B, .divu 9 10),
    (0x712A0000, .madd 9 10),
    (0x712A0001, .maddu 9 10),
    (0x00004810, .mfhi 9),
    (0x00004812, .mflo 9),
    (0x712A0004, .msub 9 10),
    (0x712A0005, .msubu 9 10),
    (0x01200011, .mthi 9),
    (0x01200013, .mtlo 9),
    (0x714B4802, .mul 9 10 11),
    (0x012A0018, .mult 9 10),
    (0x012A0019, .multu 9 10)] = true := by decide +kernel

theorem test_decode_BranchJump : decodes [
    (0x45040003, .bc1f 1 3),
    (0x45050003, .bc1t 1 3),
    (0x112A0003, .beq 9 10 3),
    (0x05210003, .bgez 9 3),
    (0x05310003, .bgezal 9 3),
    (0x1D200003, .bgtz 9 3),
    (0x19200003, .blez 9 3),
    (0x05200003, .bltz 9 3),
    (0x05300003, .bltzal 9 3),
    (0x152A0003, .bne 9 10 3),
    (0x08100008, .j 0x0100008),
    (0x0C100008, .jal 0x0100008),
    (0x01404809, .jalr 9 10 0),
    (0x01200008, .jr 9 0)] = true := by decide +kernel

theorem test_decode_LoadStore : decodes [
    (0x8149FF9C, .lb 9 0xFF9C 10),
    (0x9149FF9C, .lbu 9 0xFF9C 10),
    (0xD542FF9C, .ldc1 2 0xFF9C 10),
    (0x8549FF9C, .lh 9 0xFF9C 10),
    (0x9549FF9C, .lhu 9 0xFF9C 10),
    (0xC149FF9C, .ll 9 0xFF9C 10),
    (0x8D49FF9C, .lw 9 0xFF9C 10),
    (0xC541FF9C, .lwc1 1 0xFF9C 10),
    (0x8949FF9C, .lwl 9 0xFF9C 10),
    (0x9949FF9C, .lwr 9 0xFF9C 10),
    (0xA149FF9C, .sb 9 0xFF9C 10),
    (0xE149FF9C, .sc 9 0xFF9C 10),
    (0xF542FF9C, .sdc1 2 0xFF9C 10),
    (0xA549FF9C, .sh 9 0xFF9C 10),
    (0xAD49FF9C, .sw 9 0xFF9C 10),
    (0xE541FF9C, .swc1 1 0xFF9C 10),
    (0xA949FF9C, .swl 9 0xFF9C 10),
    (0xB949FF9C, .swr 9 0xFF9C 10)] = true := by decide +kernel

theorem test_decode_TrapSystem : decodes [
    (0x0000190D, .brk 100),
    (0x42000018, .eret),
    (0x40094000, .mfc0 9 8),
    (0x40894000, .mtc0 9 8),
    (0x0000000C, .syscall 0),
    (0x012A0034, .teq 9 10 0),
    (0x052CFF9C, .teqi 9 0xFF9C),
    (0x012A0030, .tge 9 10 0),
    (0x0528FF9C, .tgei 9 0xFF9C),
    (0x0529FF9C, .tgeiu 9 0xFF9C),
    (0x012A0031, .tgeu 9 10 0),
    (0x012A0032, .tlt 9 10 0),
    (0x052AFF9C, .tlti 9 0xFF9C),
    (0x052BFF9C, .tltiu 9 0xFF9C),
    (0x012A0033, .tltu 9 10 0),
    (0x012A0036, .tne 9 10 0),
    (0x052EFF9C, .tnei 9 0xFF9C)] = true := by decide +kernel

theorem test_decode_FpArith : decodes [
    (0x46202085, .absD 2 4),
    (0x46000805, .absS 0 1),
    (0x46262080, .addD 2 4 6),
    (0x46030800, .addS 0 1 3),
    (0x46262083, .divD 2 4 6),
    (0x46030803, .divS 0 1 3),
    (0x46262082, .mulD 2 4 6),
    (0x46030802, .mulS 0 1 3),
    (0x46202087, .negD 2 4),
    (0x46000807, .negS 0 1),
    (0x46202084, .sqrtD 2 4),
    (0x46000804, .sqrtS 0 1),
    (0x46262081, .subD 2 4 6),
    (0x46030801, .subS 0 1 3)] = true := by decide +kernel

theorem test_decode_FpMove : decodes [
    (0x46241132, .cEqD 1 2 4),
    (0x46010132, .cEqS 1 0 1),
    (0x4624113E, .cLeD 1 2 4),
    (0x4601013E, .cLeS 1 0 1),
    (0x4624113C, .cLtD 1 2 4),
    (0x4601013C, .cLtS 1 0 1),
    (0x4620104E, .ceilWD 1 2),
    (0x4600080E, .ceilWS 0 1),
    (0x460008A1, .cvtDS 2 1),
    (0x468008A1, .cvtDW 2 1),
    (0x46201060, .cvtSD 1 2),
    (0x46800820, .cvtSW 0 1),
    (0x46201064, .cvtWD 1 2),
    (0x46000824, .cvtWS 0 1),
    (0x4620104F, .floorWD 1 2),
    (0x4600080F, .floorWS 0 1),
    (0x44090800, .mfc1 9 1),
    (0x46202086, .movD 2 4),
    (0x46000806, .movS 0 1),
    (0x01444801, .movf 9 10 1),
    (0x46242091, .movfD 2 4 1),
    (0x46040811, .movfS 0 1 1),
    (0x462B2093, .movnD 2 4 11),
    (0x460B0813, .movnS 0 1 11),
    (0x01454801, .movt 9 10 1),
    (0x46252091, .movtD 2 4 1),
    (0x46050811, .movtS 0 1 1),
    (0x462B2092, .movzD 2 4 11),
    (0x460B0812, .movzS 0 1 11),
    (0x44890800, .mtc1 9 1),
    (0x4620104C, .roundWD 1 2),
    (0x4600080C, .roundWS 0 1),
    (0x4620104D, .truncWD 1 2),
    (0x4600080D, .truncWS 0 1)] = true := by decide +kernel

/-- Words that are no instruction of the table (96_test_vectors_fp_exceptions.md 2.8). -/
theorem test_decode_reserved :
    [0xFFFFFFFF, 0x0000000F, 0x012A5860, 0x40096001, 0x42000058, 0x45020003, 0x44490800].all
      (fun w => decodeTableWord 32 w == none) = true := by decide +kernel

end Sys2Proof.Tests
end

