-- ==== Sys2Proof/Proofs/Traps.lean ====
section
/-! The conditional traps (44_trap_system.md R230, R238 to R249): each of the twelve is `trapIf` of a comparison, and `trapIf` of a
test that decides `p` traps exactly when `p` holds. -/

namespace Sys2Proof.Machine

/-! ### The default advance, the sign-extended immediate and the two orders -/

/-- The default advance is no change but that of pc. -/
theorem onlyPc_advance (s : State) : OnlyPc s s.advance (s.pc + 4) :=
  ⟨rfl, fun _ => rfl, ⟨rfl, rfl⟩, fun _ => rfl, fun _ => rfl, ⟨rfl, rfl, rfl, rfl⟩, fun _ => rfl, ⟨rfl, rfl, rfl⟩, rfl⟩

/-- Sign extension keeps the signed value (40_integer_alu.md R94). -/
@[simp] theorem sext_toInt (imm : Imm16) : (sext imm).toInt = imm.toInt :=
  BitVec.toInt_signExtend_of_le (by decide)

/-- The sign-extended immediate is the word of its signed value, so its unsigned reading is that value modulo 2^32. -/
theorem sext_eq_ofInt (imm : Imm16) : sext imm = BitVec.ofInt 32 imm.toInt := by
  rw [← sext_toInt, BitVec.ofInt_toInt]

/-- A word is the sign-extended immediate exactly when it has the immediate's signed value. -/
theorem eq_sext_iff (a : Word) (imm : Imm16) : a = sext imm ↔ a.toInt = imm.toInt := by
  rw [← BitVec.toInt_inj, sext_toInt]

theorem ltSigned_iff (a b : Word) : ltSigned a b = true ↔ a.toInt < b.toInt := decide_eq_true_iff

theorem ltUnsigned_iff (a b : Word) : ltUnsigned a b = true ↔ a.toNat < b.toNat := decide_eq_true_iff

/-- `tge` and its kin test the negated order, which is "greater or equal". -/
theorem not_ltSigned_iff (a b : Word) : (!ltSigned a b) = true ↔ b.toInt ≤ a.toInt := by
  rw [Bool.not_eq_true', ← Bool.not_eq_true, ltSigned_iff, not_lt]

theorem not_ltUnsigned_iff (a b : Word) : (!ltUnsigned a b) = true ↔ b.toNat ≤ a.toNat := by
  rw [Bool.not_eq_true', ← Bool.not_eq_true, ltUnsigned_iff, not_lt]

/-! ### The one rule of a conditional trap -/

/-- An instruction that is a conditional trap, on a test that decides `p`, raises Trap when `p` holds and otherwise completes,
changing nothing but pc (R230). -/
theorem traps_iff_of_eq_trapIf {r : Result} {c : Bool} {p : Prop} {s : State} (hr : r = trapIf c s) (hc : c = true ↔ p) :
    (p → r = raise .trap s) ∧ (¬p → ∃ t, r = .next t ∧ OnlyPc s t (s.pc + 4)) := by
  subst hr
  constructor
  · intro hp
    exact trapIf_true (hc.mpr hp)
  · intro hp
    have hfalse : c = false := Bool.eq_false_iff.mpr (fun h => hp (hc.mp h))
    exact ⟨s.advance, trapIf_false hfalse, onlyPc_advance s⟩

/-! ### The twelve instructions: which test each one makes -/

section TrapTests
variable (s : State) (rs rt : Reg) (imm : Imm16) (code : BitVec 10)

theorem exec_teq : exec (.teq rs rt code) s = trapIf (s.x rs = s.x rt) s := rfl
theorem exec_tge : exec (.tge rs rt code) s = trapIf (!ltSigned (s.x rs) (s.x rt)) s := rfl
theorem exec_tgeu : exec (.tgeu rs rt code) s = trapIf (!ltUnsigned (s.x rs) (s.x rt)) s := rfl
theorem exec_tlt : exec (.tlt rs rt code) s = trapIf (ltSigned (s.x rs) (s.x rt)) s := rfl
theorem exec_tltu : exec (.tltu rs rt code) s = trapIf (ltUnsigned (s.x rs) (s.x rt)) s := rfl
theorem exec_tne : exec (.tne rs rt code) s = trapIf (s.x rs ≠ s.x rt) s := rfl

theorem exec_teqi : exec (.teqi rs imm) s = trapIf (s.x rs = sext imm) s := rfl
theorem exec_tgei : exec (.tgei rs imm) s = trapIf (!ltSigned (s.x rs) (sext imm)) s := rfl
theorem exec_tgeiu : exec (.tgeiu rs imm) s = trapIf (!ltUnsigned (s.x rs) (sext imm)) s := rfl
theorem exec_tlti : exec (.tlti rs imm) s = trapIf (ltSigned (s.x rs) (sext imm)) s := rfl
theorem exec_tltiu : exec (.tltiu rs imm) s = trapIf (ltUnsigned (s.x rs) (sext imm)) s := rfl
theorem exec_tnei : exec (.tnei rs imm) s = trapIf (s.x rs ≠ sext imm) s := rfl

end TrapTests

/-! ### The obligations -/

/-- Settles O39: each register trap is `trapIf` of its comparison of rs with rt. -/
theorem registerTraps : Obligations.RegisterTraps := by
  intro s rs rt code
  refine ⟨?teq, ?tge, ?tgeu, ?tlt, ?tltu, ?tne⟩
  case teq => exact traps_iff_of_eq_trapIf (exec_teq s rs rt code) decide_eq_true_iff
  case tge => exact traps_iff_of_eq_trapIf (exec_tge s rs rt code) (not_ltSigned_iff _ _)
  case tgeu => exact traps_iff_of_eq_trapIf (exec_tgeu s rs rt code) (not_ltUnsigned_iff _ _)
  case tlt => exact traps_iff_of_eq_trapIf (exec_tlt s rs rt code) (ltSigned_iff _ _)
  case tltu => exact traps_iff_of_eq_trapIf (exec_tltu s rs rt code) (ltUnsigned_iff _ _)
  case tne => exact traps_iff_of_eq_trapIf (exec_tne s rs rt code) decide_eq_true_iff

/-- Settles O40: each immediate trap is `trapIf` of its comparison with the sign-extended immediate, whose signed value is the
immediate's (`sext_toInt`) and whose unsigned value is that of `sext_eq_ofInt`. -/
theorem immediateTraps : Obligations.ImmediateTraps := by
  intro s rs imm
  rw [← sext_eq_ofInt]
  refine ⟨?teqi, ?tgei, ?tgeiu, ?tlti, ?tltiu, ?tnei⟩
  case teqi => exact traps_iff_of_eq_trapIf (exec_teqi s rs imm) (decide_eq_true_iff.trans (eq_sext_iff _ _))
  case tgei => exact traps_iff_of_eq_trapIf (exec_tgei s rs imm) (by rw [not_ltSigned_iff, sext_toInt])
  case tgeiu => exact traps_iff_of_eq_trapIf (exec_tgeiu s rs imm) (not_ltUnsigned_iff _ _)
  case tlti => exact traps_iff_of_eq_trapIf (exec_tlti s rs imm) (by rw [ltSigned_iff, sext_toInt])
  case tltiu => exact traps_iff_of_eq_trapIf (exec_tltiu s rs imm) (ltUnsigned_iff _ _)
  case tnei => exact traps_iff_of_eq_trapIf (exec_tnei s rs imm) (decide_eq_true_iff.trans (eq_sext_iff _ _).not)

end Sys2Proof.Machine
end

