-- ==== Sys2Proof/Proofs/State.lean ====
section
/-! The state and what a step does to it (10_state.md). `Effect` says once what every instruction can do when it answers a next state,
and `exec_effect` proves it of all 139; the invariant and the lists of writers (HI and LO, the flags, Coprocessor 0) are then each a
case analysis of `Effect`. After them: the order of a step's checks, the instructions that write one register, the refusal of odd
double-precision registers, and the conversions to a word. -/

namespace Sys2Proof.Machine

/-! ### The instructions that ask the state whether they have a meaning -/

section Arms
variable {s t : State} {rt rd rs hint : Reg} {code : BitVec 20}

theorem exec_jalr_same (h : rd = rs ∧ rd ≠ 0) : exec (.jalr rd rs hint) s = .fault .jalrSameRegister := if_pos h

theorem exec_jalr_link (h : ¬(rd = rs ∧ rd ≠ 0)) :
    exec (.jalr rd rs hint) s = .next ((s.setX rd (s.pc + 4)).jump (s.x rs)) := if_neg h

/-- `sc` is a store that also writes its register (43_load_store.md R216). -/
theorem exec_sc {imm : Imm16} : exec (.sc rt imm rs) s =
    storeAt s (s.ea imm rs) 4 (s.ea imm rs).toNat (bytesOf (s.x rt) 0 4) (fun u => (u.setX rt 1).advance) := rfl

theorem exec_mfc0_of_some {v : Word} (h : s.c0 rd = some v) : exec (.mfc0 rt rd) s = .next (s.setX rt v).advance := by
  simp only [exec, execMfc0, h]

theorem exec_mfc0_of_none (h : s.c0 rd = none) : exec (.mfc0 rt rd) s = .fault (.unknownCop0Register rd) := by
  simp only [exec, execMfc0, h]

theorem exec_mtc0_of_some (h : s.setC0 rd (s.x rt) = some t) : exec (.mtc0 rt rd) s = .next t.advance := by
  simp only [exec, execMtc0, h]

theorem exec_mtc0_of_none (h : s.setC0 rd (s.x rt) = none) : exec (.mtc0 rt rd) s = .fault (.unknownCop0Register rd) := by
  simp only [exec, execMtc0, h]

/-- Service 10 ends the run (44_trap_system.md R237). -/
theorem exec_syscall_exit (h : s.x 2 = 10) : exec (.syscall code) s = .next { s with run := .ended .exit } := if_pos h

/-- A service that the environment defines is served. -/
theorem exec_syscall_of_served (hx : s.x 2 ≠ 10) (h : s.serve = some t) : exec (.syscall code) s = .next t := by
  simp only [exec, execSyscall, if_neg hx, h]

/-- Any other service raises Syscall. -/
theorem exec_syscall_of_undefined (hx : s.x 2 ≠ 10) (h : s.serve = none) :
    exec (.syscall code) s = raise .syscall s := by
  simp only [exec, execSyscall, if_neg hx, h]

end Arms

/-! ### Which instructions may write HI, LO and the flags -/

/-- The instructions that may write HI (10_state.md R29). -/
def mayWriteHi : Instr → Bool
  | .mult _ _ | .multu _ _ | .mul _ _ _ | .madd _ _ | .maddu _ _ | .msub _ _ | .msubu _ _ | .div _ _ | .divu _ _
  | .mthi _ => true
  | _ => false

/-- The instructions that may write LO (10_state.md R29). -/
def mayWriteLo : Instr → Bool
  | .mult _ _ | .multu _ _ | .mul _ _ _ | .madd _ _ | .maddu _ _ | .msub _ _ | .msubu _ _ | .div _ _ | .divu _ _
  | .mtlo _ => true
  | _ => false

/-- The one flag that an instruction may write (10_state.md R31). -/
def flagWritten : Instr → Option CondFlag
  | .cEqS cc _ _ | .cEqD cc _ _ | .cLeS cc _ _ | .cLeD cc _ _ | .cLtS cc _ _ | .cLtD cc _ _ => some cc
  | _ => none

/-! ### Everything an instruction can do -/

/-- The next states that instruction `i` can answer from `s`, by what is written. -/
inductive Effect (s : State) : Instr → State → Prop
  /-- pc alone -/
  | pc {i : Instr} (a : Word) : Effect s i (s.jump a)
  /-- one general register and pc -/
  | gpr {i : Instr} (r : Reg) (v a : Word) : Effect s i ((s.setX r v).jump a)
  /-- coprocessor 1 registers, and the model's counter of free values -/
  | fpr {i : Instr} (f : Vector Word 32) (d : Nat) : Effect s i { s with fpr := f, draws := d }.advance
  /-- the flag that the instruction names -/
  | flag {i : Instr} (k : CondFlag) (b : Bool) (hk : flagWritten i = some k) : Effect s i (s.setFlag k b).advance
  /-- HI and LO, each only by its writers, and the counter of free values -/
  | hiLo {i : Instr} (hi lo : Word) (d : Nat) (hhi : mayWriteHi i = false → hi = s.hi)
      (hlo : mayWriteLo i = false → lo = s.lo) : Effect s i { s with hi := hi, lo := lo, draws := d }.advance
  /-- `mul` writes HI and LO and a general register -/
  | mul (rd rs rt : Reg) (p : DWord) (v : Word) : Effect s (.mul rd rs rt) ((s.setHiLo p).setX rd v).advance
  /-- writable bytes of memory -/
  | store {i : Instr} (first : Nat) (bs : List Byte) (hpos : 0 < bs.length)
      (hw : s.launch.allWritable first bs.length = true) : Effect s i { s with mem := s.mem.writeBytes first bs }.advance
  /-- `sc` writes memory and a general register -/
  | storeConditional {i : Instr} (first : Nat) (bs : List Byte) (r : Reg) (v : Word) (hpos : 0 < bs.length)
      (hw : s.launch.allWritable first bs.length = true) :
      Effect s i ({ s with mem := s.mem.writeBytes first bs }.setX r v).advance
  /-- a Coprocessor 0 register, by `mtc0` -/
  | cop0 {t : State} (rt rd : Reg) (h : s.setC0 rd (s.x rt) = some t) : Effect s (.mtc0 rt rd) t.advance
  /-- the return from an exception -/
  | eret : Effect s .eret s.returnFromException
  /-- the normal end of the run -/
  | exit (code : BitVec 20) : Effect s (.syscall code) { s with run := .ended .exit }
  /-- a service of the environment -/
  | answer (code : BitVec 20) (env : List EnvService) (d : Nat) (a : EnvAnswer) :
      Effect s (.syscall code) ({ s with env := env, draws := d }.applyAnswer a)
  /-- an exception taken -/
  | exception {i : Instr} {t : State} (e : Exc) (h : raise e s = .next t) : Effect s i t

section Shapes
variable {s t u : State} {i : Instr}

/-- An instruction that always completes. -/
theorem Effect.of_next (h : (.next u : Result) = .next t) (hu : Effect s i u) : Effect s i t := by
  cases h; exact hu

/-- A conditional move: its write, or the advance alone. -/
theorem Effect.of_ite {c : Prop} [Decidable c] (h : (.next (if c then u else s).advance : Result) = .next t)
    (hu : Effect s i u.advance) : Effect s i t := by
  cases h
  split
  · exact hu
  · exact .pc _

/-- A trap on overflow, or the result. -/
theorem Effect.of_raise_or {c : Bool} {e : Exc} (h : (if c then raise e s else .next u) = .next t)
    (hu : Effect s i u) : Effect s i t := by
  split at h
  · exact .exception e h
  · exact .of_next h hu

theorem Effect.of_trapIf {c : Bool} (h : trapIf c s = .next t) : Effect s i t := by
  obtain ⟨-, rfl⟩ | ⟨-, hr⟩ := trapIf_next h
  · exact .pc _
  · exact .exception _ hr

theorem Effect.of_loadAt {ea : Word} {width first n : Nat} (h : loadAt s ea width first n u = .next t)
    (hu : Effect s i u) : Effect s i t := by
  obtain ⟨-, -, rfl⟩ | hr := loadAt_next h
  · exact hu
  · exact .exception _ hr

theorem Effect.of_storeAt {ea : Word} {width first : Nat} {bs : List Byte} {after : State → State}
    (h : storeAt s ea width first bs after = .next t)
    (hu : s.launch.allWritable first bs.length = true → Effect s i (after { s with mem := s.mem.writeBytes first bs })) :
    Effect s i t := by
  obtain ⟨-, hw, rfl⟩ | hr := storeAt_next h
  · exact hu hw
  · exact .exception _ hr

/-- A linking branch: the link and the jump, or the advance alone. -/
theorem Effect.of_link {c : Prop} [Decidable c] {r : Reg} {v a : Word}
    (h : (if c then .next ((s.setX r v).jump a) else .next s.advance : Result) = .next t) : Effect s i t := by
  split at h
  · exact .of_next h (.gpr r v a)
  · exact .of_next h (.pc _)

/-- A division: the quotient and remainder, or the two free values. -/
theorem Effect.of_div {c : Prop} [Decidable c] {p : DWord}
    (h : (if c then .next s.drawHiLo.advance else .next (s.setHiLo p).advance : Result) = .next t)
    (hhi : mayWriteHi i = true) (hlo : mayWriteLo i = true) : Effect s i t := by
  have hi_free (w : Word) : mayWriteHi i = false → w = s.hi := by simp [hhi]
  have lo_free (w : Word) : mayWriteLo i = false → w = s.lo := by simp [hlo]
  split at h
  · exact .of_next h (.hiLo _ _ _ (hi_free _) (lo_free _))
  · exact .of_next h (.hiLo _ _ _ (hi_free _) (lo_free _))

end Shapes

/-- Whatever instruction answers a next state has one of the effects of `Effect`. -/
theorem exec_effect {i : Instr} {s t : State} (h : exec i s = .next t) : Effect s i t := by
  cases i with
  | addiu | addu | and | andi | clo | clz | lui | nor | or | ori | sll | sllv | slt | slti | sltiu | sltu | sra | srav | srl
  | srlv | subu | xor | xori | mfhi | mflo | mfc1 | jal => exact .of_next h (.gpr _ _ _)
  | nop | bc1f | bc1t | beq | bgez | bgtz | blez | bltz | bne | j | jr => exact .of_next h (.pc _)
  | add | addi | sub => exact .of_raise_or h (.gpr _ _ _)
  | movn | movz | movf | movt => exact .of_ite h (.gpr _ _ _)
  | mult | multu | madd | maddu | msub | msubu => exact .of_next h (.hiLo _ _ _ nofun nofun)
  | mthi => exact .of_next h (.hiLo _ _ _ nofun fun _ => rfl)
  | mtlo => exact .of_next h (.hiLo _ _ _ (fun _ => rfl) nofun)
  | mul => exact .of_next h (.mul _ _ _ _ _)
  | div | divu => exact .of_div h rfl rfl
  | bgezal | bltzal => exact .of_link h
  | jalr rd rs hint =>
    by_cases hc : rd = rs ∧ rd ≠ 0
    · rw [exec_jalr_same hc] at h; cases h
    · rw [exec_jalr_link hc] at h; exact .of_next h (.gpr _ _ _)
  | lb | lbu | lh | lhu | ll | lw | lwl | lwr => exact .of_loadAt h (.gpr _ _ _)
  | lwc1 => exact .of_loadAt h (.fpr _ _)
  | ldc1 => exact .of_loadAt (withEven_next h).2 (.fpr _ _)
  | sb | sh | sw | swc1 | swl => exact .of_storeAt h (.store _ _ (by simp))
  | swr => exact .of_storeAt h (.store _ _ (by rw [bytesOf_length]; omega))
  | sdc1 => exact .of_storeAt (withEven_next h).2 (.store _ _ (by simp))
  | sc rt imm rs =>
    rw [exec_sc] at h
    exact .of_storeAt h (.storeConditional _ _ rt 1 (by simp))
  | brk => exact .exception _ h
  | teq | teqi | tge | tgei | tgeiu | tgeu | tlt | tlti | tltiu | tltu | tne | tnei => exact .of_trapIf h
  | eret => exact .of_next h .eret
  | mfc0 rt rd =>
    cases hc : s.c0 rd with
    | some v => rw [exec_mfc0_of_some hc] at h; exact .of_next h (.gpr _ _ _)
    | none => rw [exec_mfc0_of_none hc] at h; cases h
  | mtc0 rt rd =>
    cases hc : s.setC0 rd (s.x rt) with
    | some u => rw [exec_mtc0_of_some hc] at h; exact .of_next h (.cop0 rt rd hc)
    | none => rw [exec_mtc0_of_none hc] at h; cases h
  | syscall code =>
    by_cases hx : s.x 2 = 10
    · rw [exec_syscall_exit hx] at h; exact .of_next h (.exit code)
    · cases hc : s.serve with
      | some u =>
        rw [exec_syscall_of_served hx hc] at h
        obtain ⟨a, env, d, rfl⟩ := State.serve_some hc
        exact .of_next h (.answer code env d a)
      | none => rw [exec_syscall_of_undefined hx hc] at h; exact .exception _ h
  | absS | addS | divS | mulS | negS | sqrtS | subS | ceilWS | cvtSW | cvtWS | floorWS | movS | mtc1 | roundWS | truncWS =>
    exact .of_next h (.fpr _ _)
  | absD | addD | divD | mulD | negD | sqrtD | subD | ceilWD | cvtDS | cvtDW | cvtSD | cvtWD | floorWD | movD | roundWD
  | truncWD => exact .of_next (withEven_next h).2 (.fpr _ _)
  | movfS | movnS | movtS | movzS => exact .of_ite h (.fpr _ _)
  | movfD | movnD | movtD | movzD => exact .of_ite (withEven_next h).2 (.fpr _ _)
  | cEqS | cLeS | cLtS => exact .of_next h (.flag _ _ rfl)
  | cEqD | cLeD | cLtD => exact .of_next (withEven_next h).2 (.flag _ _ rfl)

/-! ### What no effect changes -/

section Frames
variable {s t : State} {i : Instr}

/-- The fields that no write to Coprocessor 0 changes. -/
theorem State.setC0_frame {n : Reg} {v : Word} (h : s.setC0 n v = some t) :
    t.gpr = s.gpr ∧ t.fpr = s.fpr ∧ t.cc = s.cc ∧ t.hi = s.hi ∧ t.lo = s.lo ∧ t.mem = s.mem := by
  obtain ⟨-, rfl⟩ | ⟨-, rfl⟩ | ⟨-, rfl⟩ | ⟨-, rfl⟩ := State.setC0_some h <;> exact ⟨rfl, rfl, rfl, rfl, rfl, rfl⟩

/-- Entry 0 of the register file is never written (10_state.md R22). -/
theorem Effect.gpr_zero (h : Effect s i t) : t.gpr[0] = s.gpr[0] := by
  cases h with
  | pc | fpr | flag | hiLo | store | eret | exit => rfl
  | gpr r v a => exact s.setX_gpr_zero r v
  | mul | storeConditional => exact State.setX_gpr_zero _ _ _
  | cop0 rt rd hc =>
    obtain ⟨hgpr, -⟩ := State.setC0_frame hc
    exact congrArg (fun g : Vector Word 32 => g[0]) hgpr
  | answer => exact State.applyAnswer_gpr_zero _ _
  | exception e hr =>
    obtain ⟨hgpr, -⟩ := raise_frame hr
    rw [hgpr]

/-- Memory stays canonical: a store is admitted only inside the address space, an answer writes data memory only. -/
theorem Effect.mem_wf (h : Effect s i t) (hs : s.mem.wf) : t.mem.wf := by
  cases h with
  | pc | gpr | fpr | flag | hiLo | mul | eret | exit => exact hs
  | store first bs hpos hw => exact Memory.writeBytes_wf bs first (Launch.allWritable_le hpos hw) hs
  | storeConditional first bs r v hpos hw => exact Memory.writeBytes_wf bs first (Launch.allWritable_le hpos hw) hs
  | cop0 rt rd hc =>
    obtain ⟨-, -, -, -, -, hmem⟩ := State.setC0_frame hc
    exact hmem ▸ hs
  | answer code env d a =>
    rw [State.applyAnswer_mem]
    exact Launch.storeCells_wf _ _ hs
  | exception e hr =>
    obtain ⟨-, -, -, -, -, hmem, -⟩ := raise_frame hr
    rwa [hmem]

/-- HI stays, but for its writers (10_state.md R29). -/
theorem Effect.hi_eq (h : Effect s i t) (hi : mayWriteHi i = false) : t.hi = s.hi := by
  cases h with
  | pc | gpr | fpr | flag | store | storeConditional | eret | exit => rfl
  | hiLo _ _ _ hhi => exact hhi hi
  | mul => cases hi
  | cop0 rt rd hc =>
    obtain ⟨-, -, -, hhi, -⟩ := State.setC0_frame hc
    exact hhi
  | answer =>
    obtain ⟨hhi, -⟩ := State.applyAnswer_frame _ _
    exact hhi
  | exception e hr =>
    obtain ⟨-, -, -, hhi, -⟩ := raise_frame hr
    exact hhi

/-- LO stays, but for its writers (10_state.md R29). -/
theorem Effect.lo_eq (h : Effect s i t) (hi : mayWriteLo i = false) : t.lo = s.lo := by
  cases h with
  | pc | gpr | fpr | flag | store | storeConditional | eret | exit => rfl
  | hiLo _ _ _ _ hlo => exact hlo hi
  | mul => cases hi
  | cop0 rt rd hc =>
    obtain ⟨-, -, -, -, hlo, -⟩ := State.setC0_frame hc
    exact hlo
  | answer =>
    obtain ⟨-, hlo, -⟩ := State.applyAnswer_frame _ _
    exact hlo
  | exception e hr =>
    obtain ⟨-, -, -, -, hlo, -⟩ := raise_frame hr
    exact hlo

/-- The same flag file reads the same flags. -/
theorem sameFlags_of_cc_eq (h : t.cc = s.cc) : SameFlags s t := fun k => by simp only [State.flag, h]

/-- A flag stays, but for the one that the instruction names (10_state.md R31). -/
theorem Effect.flag_eq (h : Effect s i t) {j : CondFlag} (hj : flagWritten i ≠ some j) : t.flag j = s.flag j := by
  cases h with
  | pc | gpr | fpr | hiLo | mul | store | storeConditional | eret | exit => rfl
  | flag k b hk =>
    have hne : j ≠ k := fun e => hj (e ▸ hk)
    exact (State.flag_setFlag s k b j).trans (if_neg hne)
  | cop0 rt rd hc =>
    obtain ⟨-, -, hcc, -⟩ := State.setC0_frame hc
    exact sameFlags_of_cc_eq (t := State.advance _) hcc j
  | answer =>
    obtain ⟨-, -, hcc, -⟩ := State.applyAnswer_frame _ _
    exact sameFlags_of_cc_eq hcc j
  | exception e hr =>
    obtain ⟨-, -, hcc, -⟩ := raise_frame hr
    exact sameFlags_of_cc_eq hcc j

/-- Taking an exception is precise (60_exceptions.md R343, R350): Coprocessor 0 is written, EPC with the address of the instruction,
and the program's own state is as it was. -/
theorem raise_precise {e : Exc} (h : raise e s = .next t) :
    s.exl = false ∧ t.exl = true ∧ t.epc = s.pc ∧ SameProgram s t := by
  obtain ⟨hgpr, hfpr, hcc, hhi, hlo, hmem, hlaunch, henv, hdraws⟩ := raise_frame h
  have hsame : SameProgram s t :=
    ⟨fun k => by simp only [State.x, hgpr], ⟨hhi, hlo⟩, fun k => by simp only [State.f, hfpr], sameFlags_of_cc_eq hcc,
      fun a => by rw [hmem], hlaunch, henv, hdraws⟩
  have hset : (s.status ||| 2).getLsbD 1 = true := by simp
  obtain ⟨hexl, ⟨a, -, rfl⟩ | ⟨-, rfl⟩⟩ := raise_next h
  · exact ⟨hexl, hset, rfl, hsame⟩
  · exact ⟨hexl, hset, rfl, hsame⟩

/-- Coprocessor 0 stays, but for `mtc0`, `eret` and an exception (10_state.md R40). -/
theorem Effect.cop0_cases (h : Effect s i t) :
    SameCop0 s t ∨ (∃ rt rd, i = .mtc0 rt rd) ∨ i = .eret ∨ ∃ e, raise e s = .next t := by
  cases h with
  | pc | gpr | fpr | flag | hiLo | mul | store | storeConditional | exit => exact .inl ⟨rfl, rfl, rfl, rfl⟩
  | cop0 rt rd hc => exact .inr (.inl ⟨rt, rd, rfl⟩)
  | answer =>
    obtain ⟨-, -, -, hbad, hstatus, hcause, hepc, -⟩ := State.applyAnswer_frame _ _
    exact .inl ⟨hbad, hstatus, hcause, hepc⟩
  | eret => exact .inr (.inr (.inl rfl))
  | exception e hr => exact .inr (.inr (.inr ⟨e, hr⟩))

end Frames

/-! ### The invariant and the lists of writers -/

/-- Taking an exception keeps the invariant: it writes neither memory nor the register file. -/
theorem raise_keeps_inv {e : Exc} {s t : State} (h : raise e s = .next t) (hs : s.Inv) : t.Inv := by
  obtain ⟨hwf, hzero⟩ := hs
  obtain ⟨hgpr, -, -, -, -, hmem, -⟩ := raise_frame h
  exact ⟨hmem ▸ hwf, hgpr ▸ hzero⟩

/-- Settles O7: a next state is an instruction's effect or an exception of the fetch, and both keep the invariant. -/
theorem stepKeepsInvariant : Obligations.StepKeepsInvariant := by
  intro s t hs h
  obtain ⟨i, -, hi⟩ | hr | hr := step_next h
  · obtain ⟨hwf, hzero⟩ := hs
    exact ⟨(exec_effect hi).mem_wf hwf, (exec_effect hi).gpr_zero.trans hzero⟩
  · exact raise_keeps_inv hr hs
  · exact raise_keeps_inv hr hs

/-- Settles O8. -/
theorem resetInvariant : Obligations.ResetInvariant := ⟨Memory.wf_nil, rfl⟩

/-- Settles O11: no effect writes HI or LO outside `mayWriteHi` and `mayWriteLo`. -/
theorem hiLoWriters : Obligations.HiLoWriters := by
  intro i s t h
  have heffect := exec_effect h
  cases i with
  | mult | multu | mul | madd | maddu | msub | msubu | div | divu => trivial
  | mthi => exact heffect.lo_eq rfl
  | mtlo => exact heffect.hi_eq rfl
  | _ => exact ⟨heffect.hi_eq rfl, heffect.lo_eq rfl⟩

/-- Settles O12: no effect writes a flag other than `flagWritten`. -/
theorem flagWriters : Obligations.FlagWriters := by
  intro i s t h
  have heffect := exec_effect h
  cases i with
  | cEqS | cEqD | cLeS | cLeD | cLtS | cLtD =>
    intro j hj
    exact heffect.flag_eq fun hk => hj (Option.some.inj hk).symm
  | _ => exact fun j => heffect.flag_eq nofun

/-- Settles O13. -/
theorem cop0Writers : Obligations.Cop0Writers := by
  intro i s t h
  obtain hsame | hmtc0 | heret | ⟨e, hr⟩ := (exec_effect h).cop0_cases
  · exact .inl hsame
  · exact .inr (.inl hmtc0)
  · exact .inr (.inr (.inl heret))
  · exact .inr (.inr (.inr (raise_precise hr)))

/-! ### Fetch, decode and the order of a step's checks -/

section Step
variable {s : State}

theorem step_of_fetch_ok {i : Instr} (h : fetch s = .ok i) : step s = exec i s := by simp only [step, h]

theorem step_of_fetch_error {r : Result} (h : fetch s = .error r) : step s = r := by simp only [step, h]

/-- A word that selects no row is a reserved instruction (30_encoding.md R108). -/
theorem decodeWord_of_no_row {w : Word} (h : ∀ r ∈ opcodeRows, r.selects w = false) :
    decodeWord w = .error (.reservedInstruction w) := by
  have hnone : opcodeRows.find? (fun r => r.selects w) = none :=
    List.find?_eq_none.mpr fun r hr => Bool.eq_false_iff.mp (h r hr)
  simp only [decodeWord, hnone]

/-- The word that is fetched is the word that a load at pc would read (20_memory.md R62). -/
theorem decode_fetchBytes_of_no_row (h : ∀ r ∈ opcodeRows, r.selects (s.mem.read32 s.pc.toNat) = false) :
    decode s.fetchBytes = .error (.reservedInstruction (s.mem.read32 s.pc.toNat)) := by
  have hword := decodeWord_of_no_row h
  unfold Memory.read32 at hword ⊢
  simp only [State.fetchBytes, decode, wordOfBytes, hword]

theorem fetch_of_ended {how : RunEnd} (hrun : s.run = .ended how) : fetch s = .error (.fault (.runOver how)) := by
  simp only [fetch, hrun]

theorem fetch_at_end (hrun : s.run = .running) (hend : s.pc = s.launch.endPc) :
    fetch s = .error (.fault (.runOver .droppedOff)) := by
  simp only [fetch, hrun, if_pos hend]

theorem fetch_misaligned (hrun : s.run = .running) (hend : s.pc ≠ s.launch.endPc) (halign : s.pc.toNat % 4 ≠ 0) :
    fetch s = .error (raise (.addressErrorLoad s.pc) s) := by
  simp only [fetch, hrun, if_neg hend, if_pos halign]

theorem fetch_outside (hrun : s.run = .running) (hend : s.pc ≠ s.launch.endPc) (halign : s.pc.toNat % 4 = 0)
    (htext : s.launch.isText s.pc.toNat = false) : fetch s = .error (.fault (.fetchOutsideProgram s.pc)) := by
  simp only [fetch, hrun, if_neg hend, if_neg (not_not.mpr halign), if_pos htext]

theorem fetch_reserved {e : DecodeError} (hrun : s.run = .running) (hend : s.pc ≠ s.launch.endPc)
    (halign : s.pc.toNat % 4 = 0) (htext : s.launch.isText s.pc.toNat = true) (hdecode : decode s.fetchBytes = .error e) :
    fetch s = .error (raise .reservedInstruction s) := by
  simp [fetch, hrun, hend, halign, htext, hdecode]

end Step

/-- Settles O5. -/
theorem stepRunsDecodedInstruction : Obligations.StepRunsDecodedInstruction := by
  intro s i rest hrun hend halign htext hdecode
  exact step_of_fetch_ok (fetch_of_ok hrun hend halign htext hdecode)

/-- Settles O6: each clause is the check of `fetch` that fails first. -/
theorem stepChecksInOrder : Obligations.StepChecksInOrder := by
  constructor
  · intro s hrun hend
    refine ⟨?misaligned, ?outside, ?reserved⟩
    case misaligned => exact fun halign => step_of_fetch_error (fetch_misaligned hrun hend halign)
    case outside => exact fun halign htext => step_of_fetch_error (fetch_outside hrun hend halign htext)
    case reserved =>
      intro halign htext hrows
      exact step_of_fetch_error (fetch_reserved hrun hend halign htext (decode_fetchBytes_of_no_row hrows))
  · intro s
    exact ⟨fun how hrun => step_of_fetch_error (fetch_of_ended hrun),
      fun hrun hend => step_of_fetch_error (fetch_at_end hrun hend)⟩

/-! ### The launch values -/

/-- The register file at reset: zeros, with $gp and $sp written over them. -/
theorem reset_x (k : Reg) : State.reset.x k = if k = 28 then 0x10008000 else if k = 29 then 0x7FFFEFFC else 0 := by
  revert k
  decide

/-- Settles O9. -/
theorem resetValues : Obligations.ResetValues := by
  have hfpr (k : Reg) : State.reset.f k = 0 := Vector.getElem_replicate _
  have hflag (k : CondFlag) : State.reset.flag k = false := Vector.getElem_replicate _
  exact ⟨rfl, reset_x, rfl, rfl, hfpr, hflag, rfl, rfl, rfl, rfl, fun _ => rfl⟩

/-! ### One general register written: the register forms of the ALU, `nop`, the Coprocessor 0 moves -/

/-- A write to a general register and the default advance change that register and pc alone. -/
theorem onlyGpr_setX_advance (s : State) (r : Reg) (v : Word) : OnlyGpr s (s.setX r v).advance r v :=
  ⟨rfl, s.x_setX r v, ⟨rfl, rfl⟩, fun _ => rfl, fun _ => rfl, ⟨rfl, rfl, rfl, rfl⟩, fun _ => rfl, ⟨rfl, rfl, rfl⟩, rfl⟩

/-- An instruction that answers a register write and the advance, the value in the form of its rule. -/
theorem completes_onlyGpr {s : State} {r : Reg} {v w : Word} {i : Instr} (h : exec i s = .next (s.setX r v).advance)
    (hv : v = w) : ∃ t, exec i s = .next t ∧ OnlyGpr s t r w :=
  ⟨_, h, hv ▸ onlyGpr_setX_advance s r v⟩

/-- The sum modulo 2^32 of the unsigned readings (00_scope.md R10). -/
theorem add_eq_ofNat (a b : Word) : a + b = BitVec.ofNat 32 (a.toNat + b.toNat) := by
  rw [BitVec.ofNat_add, BitVec.ofNat_toNat, BitVec.ofNat_toNat, BitVec.setWidth_eq, BitVec.setWidth_eq]

/-- The difference modulo 2^32 of the signed readings (00_scope.md R10). -/
theorem sub_eq_ofInt (a b : Word) : a - b = BitVec.ofInt 32 (a.toInt - b.toInt) := by
  rw [← BitVec.toInt_inj, BitVec.toInt_sub, BitVec.toInt_ofInt]

theorem boolWord_ltSigned (a b : Word) : boolWord (ltSigned a b) = if a.toInt < b.toInt then 1 else 0 := by
  simp only [boolWord, ltSigned_iff]

theorem boolWord_ltUnsigned (a b : Word) : boolWord (ltUnsigned a b) = if a.toNat < b.toNat then 1 else 0 := by
  simp only [boolWord, ltUnsigned_iff]

/-- Settles O14: each instruction answers one register write and the advance; its value is that of the rule. -/
theorem aluRegister : Obligations.AluRegister := by
  intro s rd rs rt
  refine ⟨?addu, ?subu, ?and, ?or, ?xor, ?nor, ?slt, ?sltu⟩
  case addu => exact completes_onlyGpr rfl (add_eq_ofNat _ _)
  case subu => exact completes_onlyGpr rfl (sub_eq_ofInt _ _)
  case and => exact completes_onlyGpr rfl rfl
  case or => exact completes_onlyGpr rfl rfl
  case xor => exact completes_onlyGpr rfl rfl
  case nor => exact completes_onlyGpr rfl rfl
  case slt => exact completes_onlyGpr rfl (boolWord_ltSigned _ _)
  case sltu => exact completes_onlyGpr rfl (boolWord_ltUnsigned _ _)

/-- A write to register 0 is discarded (10_state.md R22). -/
@[simp] theorem State.setX_zero (s : State) (v : Word) : s.setX 0 v = s := rfl

/-- Settles O21: `sll` to register 0 writes nothing, so both answer the advance alone. -/
theorem nopAdvances : Obligations.NopAdvances := by
  intro s rt sa
  have hsll : exec (.sll 0 rt sa) s = .next (s.setX 0 (shiftLeft (s.x rt) sa.toNat)).advance := rfl
  rw [State.setX_zero] at hsll
  exact ⟨⟨_, rfl, onlyPc_advance s⟩, ⟨_, hsll, onlyPc_advance s⟩⟩

/-- There is no Coprocessor 0 register but 8, 12, 13, 14 (10_state.md R45). -/
theorem c0_eq_none {n : Reg} (h8 : n ≠ 8) (h12 : n ≠ 12) (h13 : n ≠ 13) (h14 : n ≠ 14) (s : State) : s.c0 n = none := by
  simp only [State.c0, if_neg h8, if_neg h12, if_neg h13, if_neg h14]

theorem setC0_eq_none {n : Reg} (h8 : n ≠ 8) (h12 : n ≠ 12) (h13 : n ≠ 13) (h14 : n ≠ 14) (s : State) (v : Word) :
    s.setC0 n v = none := by
  simp only [State.setC0, if_neg h8, if_neg h12, if_neg h13, if_neg h14]

/-- Settles O47. -/
theorem unknownCop0Register : Obligations.UnknownCop0Register := by
  intro s rt n h8 h12 h13 h14
  exact ⟨exec_mfc0_of_none (c0_eq_none h8 h12 h13 h14 s), exec_mtc0_of_none (setC0_eq_none h8 h12 h13 h14 s _)⟩

/-- `mtc0` changes nothing but Coprocessor 0 and pc: what every clause of `Obligations.Cop0Moves` about it asks beside the four
registers. -/
theorem setC0_advance_frame {s t : State} {n : Reg} {v : Word} (h : s.setC0 n v = some t) :
    SameGpr s t.advance ∧ SameHiLo s t.advance ∧ SameFpr s t.advance ∧ SameFlags s t.advance ∧ SameMem s t.advance ∧
      SameRun s t.advance ∧ t.advance.draws = s.draws := by
  obtain ⟨-, rfl⟩ | ⟨-, rfl⟩ | ⟨-, rfl⟩ | ⟨-, rfl⟩ := State.setC0_some h <;>
    exact ⟨fun _ => rfl, ⟨rfl, rfl⟩, fun _ => rfl, fun _ => rfl, fun _ => rfl, ⟨rfl, rfl, rfl⟩, rfl⟩

/-- Settles O46: `mfc0` is a register write, `mtc0` a Coprocessor 0 write with the frame of `setC0_advance_frame`. -/
theorem cop0Moves : Obligations.Cop0Moves := by
  intro s rt
  refine ⟨?fromBadVAddr, ?fromStatus, ?fromCause, ?fromEpc, ?toBadVAddr, ?toStatus, ?toCause, ?toEpc⟩
  case fromBadVAddr => exact completes_onlyGpr (exec_mfc0_of_some rfl) rfl
  case fromStatus => exact completes_onlyGpr (exec_mfc0_of_some rfl) rfl
  case fromCause => exact completes_onlyGpr (exec_mfc0_of_some rfl) rfl
  case fromEpc => exact completes_onlyGpr (exec_mfc0_of_some rfl) rfl
  case toBadVAddr => exact ⟨_, exec_mtc0_of_some rfl, rfl, rfl, rfl, rfl, rfl, setC0_advance_frame (n := 8) rfl⟩
  case toStatus => exact ⟨_, exec_mtc0_of_some rfl, rfl, rfl, rfl, rfl, rfl, setC0_advance_frame (n := 12) rfl⟩
  case toCause => exact ⟨_, exec_mtc0_of_some rfl, rfl, rfl, rfl, rfl, rfl, setC0_advance_frame (n := 13) rfl⟩
  case toEpc => exact ⟨_, exec_mtc0_of_some rfl, rfl, rfl, rfl, rfl, rfl, setC0_advance_frame (n := 14) rfl⟩

/-! ### Odd register numbers in double-precision positions -/

theorem isEven_eq_false_of_odd {r : Reg} (h : r.toNat % 2 = 1) : isEven r = false := by simp [isEven, h]

/-- Any odd number among the double-precision positions is enough for the refusal (10_state.md R36). -/
theorem withEven_of_exists_odd {regs : List Reg} (h : ∃ r ∈ regs, r.toNat % 2 = 1) (k : Result) :
    withEven regs k = .fault .oddDoubleRegister := by
  obtain ⟨r, hr, hodd⟩ := h
  exact withEven_of_odd hr (isEven_eq_false_of_odd hodd)

/-- Settles O48: every form begins with the check `withEven` of its double-precision positions. -/
theorem oddDoubleRegister : Obligations.OddDoubleRegister := by
  intro s fd fs ft rt rs cc imm
  refine ⟨fun h => ?two, fun h => ?three, fun h => ?compare, fun h => ?toSingleOrWord, fun h => ?toDouble, fun h => ?memory⟩
  case two =>
    have refused := withEven_of_exists_odd (regs := [fd, fs]) (by simpa using h)
    exact ⟨refused _, refused _, refused _, refused _, refused _, refused _, refused _, refused _⟩
  case three =>
    have refused := withEven_of_exists_odd (regs := [fd, fs, ft]) (by simpa using h)
    exact ⟨refused _, refused _, refused _, refused _⟩
  case compare =>
    have refused := withEven_of_exists_odd (regs := [fs, ft]) (by simpa using h)
    exact ⟨refused _, refused _, refused _⟩
  case toSingleOrWord =>
    have refused := withEven_of_exists_odd (regs := [fs]) (by simpa using h)
    exact ⟨refused _, refused _, refused _, refused _, refused _, refused _⟩
  case toDouble =>
    have refused := withEven_of_exists_odd (regs := [fd]) (by simpa using h)
    exact ⟨refused _, refused _⟩
  case memory =>
    have refused := withEven_of_exists_odd (regs := [ft]) (by simpa using h)
    exact ⟨refused _, refused _⟩

/-! ## Conversion to a word (46_fp_compare_convert_move.md R292): `roundToInt` is the floor, the ceiling, the truncation or the
nearest integer of the exact value, and `toWord` saturates it -/

/-! ### The exact value of a finite number -/

/-- The exact value is its sign times its magnitude. -/
theorem finiteValue_eq_ite (a : Bool) (m : Nat) (e : Int) :
    finiteValue a m e = if a then -((m : ℚ) * 2 ^ e) else (m : ℚ) * 2 ^ e := by
  cases a <;> simp [finiteValue]

/-- With an exponent that is not negative the value is an integer. -/
theorem finiteValue_of_nonneg (a : Bool) (m : Nat) {e : Int} (he : 0 ≤ e) :
    finiteValue a m e = (signedMant a (m * 2 ^ e.toNat) : Int) := by
  obtain ⟨n, rfl⟩ := Int.eq_ofNat_of_zero_le he
  cases a <;> simp [finiteValue, signedMant]

/-- With a negative exponent the magnitude is a quotient by a power of two. -/
theorem magnitude_of_neg (m : Nat) {e : Int} (he : ¬0 ≤ e) : (m : ℚ) * 2 ^ e = m / 2 ^ (-e).toNat := by
  obtain ⟨n, hn⟩ := Int.eq_ofNat_of_zero_le (show 0 ≤ -e by omega)
  obtain rfl : e = -(n : Int) := by omega
  simp [div_eq_mul_inv]

/-! ### The quotient by a power of two, rounded -/

theorem floor_div_two_pow (m k : Nat) : ⌊(m : ℚ) / 2 ^ k⌋ = (m : Int) / 2 ^ k := by
  have h := Rat.floor_natCast_div_natCast m (2 ^ k)
  push_cast at h
  exact h

/-- The ceiling of a quotient: one more than the floor when a remainder is left over. -/
theorem ceil_div_two_pow (m k : Nat) :
    ⌈(m : ℚ) / 2 ^ k⌉ = if m % 2 ^ k = 0 then (m : Int) / 2 ^ k else (m : Int) / 2 ^ k + 1 := by
  have hpos : (0 : ℚ) < 2 ^ k := by positivity
  have hrem : m % 2 ^ k < 2 ^ k := Nat.mod_lt m (Nat.two_pow_pos k)
  have hdiv : (m : ℚ) = (2 ^ k : ℚ) * ((m : Int) / 2 ^ k : Int) + (m % 2 ^ k : Nat) := by
    rw [show (m : Int) / 2 ^ k = (m / 2 ^ k : Nat) by push_cast; rfl, Int.cast_natCast]
    exact_mod_cast (Nat.div_add_mod m (2 ^ k)).symm
  rw [Int.ceil_eq_iff, lt_div_iff₀ hpos, div_le_iff₀ hpos]
  generalize (m : Int) / 2 ^ k = q at *
  generalize m % 2 ^ k = r at *
  have hlt : (r : ℚ) < 2 ^ k := by exact_mod_cast hrem
  split
  case isTrue hr =>
    subst hr
    push_cast at hdiv ⊢
    constructor <;> linarith
  case isFalse hr =>
    have hgt : (0 : ℚ) < r := by exact_mod_cast Nat.pos_of_ne_zero hr
    push_cast
    constructor <;> linarith

/-- `roundNearestEven` is within half a unit of `m / 2^(k + 1)`, and even when it lies half a unit away: in natural numbers, scaled
by 2^(k + 1). -/
theorem roundNearestEven_bounds {m k n : Nat} (hn : roundNearestEven m (k + 1) false = n) :
    n * 2 ^ (k + 1) ≤ m + 2 ^ k ∧ m ≤ n * 2 ^ (k + 1) + 2 ^ k ∧
      (n * 2 ^ (k + 1) = m + 2 ^ k ∨ m = n * 2 ^ (k + 1) + 2 ^ k → n % 2 = 0) := by
  have hdiv : m / 2 ^ (k + 1) * 2 ^ (k + 1) + m % 2 ^ (k + 1) = m := Nat.div_add_mod' m _
  have hrem : m % 2 ^ (k + 1) < 2 ^ (k + 1) := Nat.mod_lt m (Nat.two_pow_pos _)
  have hhalf : 2 ^ (k + 1) = 2 * 2 ^ k := Nat.pow_succ'
  simp only [roundNearestEven, Nat.add_sub_cancel, Bool.false_or, Bool.or_eq_true, Bool.and_eq_true, decide_eq_true_eq,
    beq_iff_eq] at hn
  generalize m / 2 ^ (k + 1) = q at *
  generalize m % 2 ^ (k + 1) = r at *
  split at hn
  case isTrue hup =>
    obtain rfl := hn
    rw [add_mul, one_mul]
    omega
  case isFalse hdown =>
    obtain rfl := hn
    omega

/-- `roundNearestEven` is a nearest integer, the even one of two (46_fp_compare_convert_move.md R292). -/
theorem roundNearestEven_nearest (m : Nat) {k : Nat} (hk : k ≠ 0) :
    |(m : ℚ) / 2 ^ k - roundNearestEven m k false| ≤ 1 / 2 ∧
      (|(m : ℚ) / 2 ^ k - roundNearestEven m k false| = 1 / 2 → roundNearestEven m k false % 2 = 0) := by
  obtain ⟨j, rfl⟩ := Nat.exists_eq_succ_of_ne_zero hk
  rw [Nat.succ_eq_add_one]
  generalize hn : roundNearestEven m (j + 1) false = n
  obtain ⟨hle, hge, htie⟩ := roundNearestEven_bounds hn
  have hhalf : (1 / 2 : ℚ) = 2 ^ j / 2 ^ (j + 1) := by rw [pow_succ]; field_simp
  have hdist : (m : ℚ) / 2 ^ (j + 1) - n = (m - n * 2 ^ (j + 1)) / 2 ^ (j + 1) := by field_simp
  have hpos : (0 : ℚ) < 2 ^ (j + 1) := by positivity
  rw [hdist, hhalf, abs_div, abs_of_pos hpos, div_le_div_iff_of_pos_right hpos, div_left_inj' hpos.ne']
  constructor
  · have hle' : (n : ℚ) * 2 ^ (j + 1) ≤ m + 2 ^ j := by exact_mod_cast hle
    have hge' : (m : ℚ) ≤ n * 2 ^ (j + 1) + 2 ^ j := by exact_mod_cast hge
    exact abs_le.mpr ⟨by linarith, by linarith⟩
  · intro habs
    apply htie
    obtain h | h := (abs_eq (by positivity)).mp habs
    · right
      exact_mod_cast (by linarith : (m : ℚ) = n * 2 ^ (j + 1) + 2 ^ j)
    · left
      exact_mod_cast (by linarith : (n : ℚ) * 2 ^ (j + 1) = m + 2 ^ j)

/-! ### `roundToInt`, direction by direction -/

section Directions
variable (a : Bool) (m : Nat) (e : Int)

/-- With an exponent that is not negative nothing is rounded. -/
theorem roundToInt_of_nonneg (dir : RoundDir) {e : Int} (he : 0 ≤ e) :
    (roundToInt dir a m e : ℚ) = finiteValue a m e := by
  rw [finiteValue_of_nonneg a m he, roundToInt, if_pos he]

theorem roundToInt_towardNegInf : roundToInt .towardNegInf a m e = ⌊finiteValue a m e⌋ := by
  by_cases he : 0 ≤ e
  · rw [← roundToInt_of_nonneg a m .towardNegInf he, Int.floor_intCast]
  · rw [finiteValue_eq_ite, magnitude_of_neg m he]
    cases a
    · simp [roundToInt, he, signedMant, floor_div_two_pow]
    · simp [roundToInt, he, signedMant, Int.floor_neg, ceil_div_two_pow]

theorem roundToInt_towardPosInf : roundToInt .towardPosInf a m e = ⌈finiteValue a m e⌉ := by
  by_cases he : 0 ≤ e
  · rw [← roundToInt_of_nonneg a m .towardPosInf he, Int.ceil_intCast]
  · rw [finiteValue_eq_ite, magnitude_of_neg m he]
    cases a
    · simp [roundToInt, he, signedMant, ceil_div_two_pow]
    · simp [roundToInt, he, signedMant, Int.ceil_neg, floor_div_two_pow]

/-- Toward zero is up for a negative number and down for any other. -/
theorem roundToInt_towardZero :
    roundToInt .towardZero a m e = if a then roundToInt .towardPosInf a m e else roundToInt .towardNegInf a m e := by
  cases a <;> simp [roundToInt]

theorem roundToInt_nearestEven :
    |finiteValue a m e - roundToInt .nearestEven a m e| ≤ 1 / 2 ∧
      (|finiteValue a m e - roundToInt .nearestEven a m e| = 1 / 2 → roundToInt .nearestEven a m e % 2 = 0) := by
  by_cases he : 0 ≤ e
  · rw [roundToInt_of_nonneg a m .nearestEven he, sub_self, abs_zero]
    norm_num
  · obtain ⟨hnear, htie⟩ := roundNearestEven_nearest m (show (-e).toNat ≠ 0 by omega)
    rw [finiteValue_eq_ite, magnitude_of_neg m he, roundToInt, if_neg he]
    cases a
    · exact ⟨hnear, fun h => by have := htie h; simp only [signedMant]; omega⟩
    · have hflip (x : ℚ) (n : Nat) : |-x - ((-(n : Int) : Int) : ℚ)| = |x - n| := by
        rw [← abs_neg]
        push_cast
        congr 1
        ring
      simp only [signedMant, if_true, hflip]
      exact ⟨hnear, fun h => by have := htie h; omega⟩

end Directions

/-! ### `toWord` -/

/-- A word holds an integer of its signed range. -/
theorem wordOfInt_toInt {n : Int} (hlo : -2 ^ 31 ≤ n) (hhi : n ≤ 2 ^ 31 - 1) : (wordOfInt n).toInt = n := by
  rw [wordOfInt, BitVec.toInt_ofInt]
  exact Int.bmod_eq_of_le (by omega) (by omega)

section ToWord
variable {d : RoundDir} {a : Bool} {m : Nat} {e : Int}

theorem toWord_toInt_of_inRange (hlo : -2 ^ 31 ≤ roundToInt d a m e) (hhi : roundToInt d a m e ≤ 2 ^ 31 - 1) :
    (toWord d (.fin a m e)).toInt = roundToInt d a m e := by
  rw [toWord, if_neg (by omega), wordOfInt_toInt hlo hhi]

theorem toWord_of_outOfRange (h : roundToInt d a m e < -2 ^ 31 ∨ 2 ^ 31 - 1 < roundToInt d a m e) :
    toWord d (.fin a m e) = 0x7FFFFFFF := if_pos h

end ToWord

/-! ### The obligation -/

/-- A write to a coprocessor 1 register and the default advance change that register and pc alone. -/
theorem onlyFpr_setF_advance (s : State) (r : Reg) (v : Word) : OnlyFpr s (s.setF r v).advance r v :=
  ⟨rfl, s.f_setF r v, fun _ => rfl, ⟨rfl, rfl⟩, fun _ => rfl, ⟨rfl, rfl, rfl, rfl⟩, fun _ => rfl, ⟨rfl, rfl, rfl⟩⟩

/-- An instruction that answers a coprocessor 1 register write and the advance draws no free value. -/
theorem completes_onlyFpr {s : State} {r : Reg} {v : Word} {i : Instr} (h : exec i s = .next (s.setF r v).advance) :
    ∃ t, exec i s = .next t ∧ OnlyFpr s t r v ∧ t.draws = s.draws :=
  ⟨_, h, onlyFpr_setF_advance s r v, rfl⟩

/-- Settles O57: the instructions write `toWord` of the operand; its four directions are the roundings of the exact value. -/
theorem convertToWord : Obligations.ConvertToWord := by
  refine ⟨fun s fd fs => ?instructions, fun a m e => ?directions, fun d a m e => ?words⟩
  case instructions =>
    refine ⟨completes_onlyFpr rfl, completes_onlyFpr rfl, completes_onlyFpr rfl, completes_onlyFpr rfl, fun heven => ?_⟩
    have goesOn (k : Result) : withEven [fs] k = k := withEven_of_even (by simp [isEven, heven])
    exact ⟨completes_onlyFpr (goesOn _), completes_onlyFpr (goesOn _), completes_onlyFpr (goesOn _),
      completes_onlyFpr (goesOn _)⟩
  case directions =>
    have htruncate := roundToInt_towardZero a m e
    rw [roundToInt_towardPosInf, roundToInt_towardNegInf] at htruncate
    exact ⟨roundToInt_towardNegInf a m e, roundToInt_towardPosInf a m e, htruncate, roundToInt_nearestEven a m e⟩
  case words =>
    exact ⟨fun ⟨hlo, hhi⟩ => toWord_toInt_of_inRange hlo hhi, toWord_of_outOfRange, rfl, rfl⟩

end Sys2Proof.Machine
end

