-- ==== Sys2Proof/Proofs/Memory.lean ====
section
/-! Loads, stores and memory (20_memory.md, 43_load_store.md): which access each instruction makes, when an access completes and when it
raises an address error, and that no step writes a byte the memory map does not make writable. -/

namespace Sys2Proof.Machine

/-! ### No step writes a byte that is not writable -/

section ReadOnly
variable {s t : State} {i : Instr}

/-- The launch parameters are fixed for the run (00_scope.md R5). -/
theorem Effect.launch_eq (h : Effect s i t) : t.launch = s.launch := by
  cases h with
  | pc | gpr | fpr | flag | hiLo | mul | store | storeConditional | eret | exit => rfl
  | cop0 rt rd hc =>
    obtain ⟨-, -, -, -, -, ⟨hlaunch, -⟩, -⟩ := setC0_advance_frame hc
    exact hlaunch
  | answer =>
    obtain ⟨-, -, -, -, -, -, -, hlaunch, -⟩ := State.applyAnswer_frame _ _
    exact hlaunch
  | exception e hr =>
    obtain ⟨-, -, -, -, -, -, hlaunch, -⟩ := raise_frame hr
    exact hlaunch

/-- A byte that is not writable lies outside every range that a store is admitted to. -/
theorem Launch.outside_of_not_writable {l : Launch} {first n a : Nat} (hrange : l.allWritable first n = true)
    (ha : l.writable a = false) : a < first ∨ first + n ≤ a := by
  by_contra hinside
  have hbyte := (l.allWritable_iff first n).mp hrange (a - first) (by omega)
  rw [show first + (a - first) = a by omega, ha] at hbyte
  cases hbyte

/-- SELF_MOD only adds to the writable bytes of data memory (20_memory.md R77). -/
theorem Launch.dataWritable_eq_false {l : Launch} {a : Nat} (h : l.writable a = false) : l.dataWritable a = false := by
  obtain ⟨hdata, -⟩ := Bool.or_eq_false_iff.mp h
  exact hdata

/-- A byte that is not writable reads as before: a store is admitted only where every byte is writable (20_memory.md R71), and an answer
of the environment writes data memory only. -/
theorem Effect.read_eq (h : Effect s i t) {a : Nat} (ha : s.launch.writable a = false) :
    t.mem.read a = s.mem.read a := by
  cases h with
  | pc | gpr | fpr | flag | hiLo | mul | eret | exit => rfl
  | store first bs _ hw => exact Memory.read_writeBytes_ne bs s.mem first a (Launch.outside_of_not_writable hw ha)
  | storeConditional first bs r v _ hw =>
    exact Memory.read_writeBytes_ne bs s.mem first a (Launch.outside_of_not_writable hw ha)
  | cop0 rt rd hc =>
    obtain ⟨-, -, -, -, hmem, -⟩ := setC0_advance_frame hc
    exact hmem a
  | answer =>
    rw [State.applyAnswer_mem]
    exact Launch.storeCells_read_ne _ _ _ a (Launch.dataWritable_eq_false ha)
  | exception e hr =>
    obtain ⟨-, -, -, -, -, hmem, -⟩ := raise_frame hr
    rw [hmem]

end ReadOnly

/-- Settles O10: a next state is an instruction's effect or an exception of the fetch, and an exception writes neither memory nor the
launch parameters. -/
theorem stepKeepsReadOnlyBytes : Obligations.StepKeepsReadOnlyBytes := by
  intro s t h
  have of_raise {e : Exc} (hr : raise e s = .next t) :
      t.launch = s.launch ∧ ∀ a : Nat, s.launch.writable a = false → t.mem.read a = s.mem.read a := by
    obtain ⟨-, -, -, -, -, hmem, hlaunch, -⟩ := raise_frame hr
    exact ⟨hlaunch, fun a _ => by rw [hmem]⟩
  obtain ⟨i, -, hi⟩ | hr | hr := step_next h
  · have heffect := exec_effect hi
    exact ⟨heffect.launch_eq, fun a ha => heffect.read_eq ha⟩
  · exact of_raise hr
  · exact of_raise hr

/-! ### Which access each instruction makes (43_load_store.md R205 to R222; `sc` is `exec_sc`) -/

/-- A double-precision access with an even register is the access itself (10_state.md R36). -/
theorem withEven_singleton {r : Reg} (h : r.toNat % 2 = 0) (k : Result) : withEven [r] k = k :=
  withEven_of_even (by simp [isEven, h])

section Accesses
variable (s : State) (rt ft rs : Reg) (imm : Imm16)

theorem exec_lb : exec (.lb rt imm rs) s = loadAt s (s.ea imm rs) 1 (s.ea imm rs).toNat 1
    (s.setX rt ((s.mem.read (s.ea imm rs).toNat).signExtend 32)).advance := rfl

theorem exec_lbu : exec (.lbu rt imm rs) s = loadAt s (s.ea imm rs) 1 (s.ea imm rs).toNat 1
    (s.setX rt ((s.mem.read (s.ea imm rs).toNat).setWidth 32)).advance := rfl

theorem exec_lh : exec (.lh rt imm rs) s = loadAt s (s.ea imm rs) 2 (s.ea imm rs).toNat 2
    (s.setX rt ((s.mem.read16 (s.ea imm rs).toNat).signExtend 32)).advance := rfl

theorem exec_lhu : exec (.lhu rt imm rs) s = loadAt s (s.ea imm rs) 2 (s.ea imm rs).toNat 2
    (s.setX rt ((s.mem.read16 (s.ea imm rs).toNat).setWidth 32)).advance := rfl

theorem exec_lw : exec (.lw rt imm rs) s = loadAt s (s.ea imm rs) 4 (s.ea imm rs).toNat 4
    (s.setX rt (s.mem.read32 (s.ea imm rs).toNat)).advance := rfl

/-- `ll` reserves nothing (43_load_store.md R210). -/
theorem exec_ll : exec (.ll rt imm rs) s = exec (.lw rt imm rs) s := rfl

theorem exec_lwc1 : exec (.lwc1 ft imm rs) s = loadAt s (s.ea imm rs) 4 (s.ea imm rs).toNat 4
    (s.setF ft (s.mem.read32 (s.ea imm rs).toNat)).advance := rfl

theorem exec_ldc1 (heven : ft.toNat % 2 = 0) : exec (.ldc1 ft imm rs) s = loadAt s (s.ea imm rs) 8 (s.ea imm rs).toNat 8
    (s.setD ft (s.mem.read32 ((s.ea imm rs).toNat + 4) ++ s.mem.read32 (s.ea imm rs).toNat)).advance :=
  withEven_singleton heven _

theorem exec_lwl : exec (.lwl rt imm rs) s =
    loadAt s (s.ea imm rs) 1 (wordBase (s.ea imm rs)) ((s.ea imm rs).toNat % 4 + 1)
      (s.setX rt (mergeLeft (s.mem.read32 (wordBase (s.ea imm rs))) (s.x rt) ((s.ea imm rs).toNat % 4))).advance := rfl

theorem exec_lwr : exec (.lwr rt imm rs) s = loadAt s (s.ea imm rs) 1 (s.ea imm rs).toNat (4 - (s.ea imm rs).toNat % 4)
    (s.setX rt (mergeRight (s.mem.read32 (wordBase (s.ea imm rs))) (s.x rt) ((s.ea imm rs).toNat % 4))).advance := rfl

theorem exec_sb : exec (.sb rt imm rs) s =
    storeAt s (s.ea imm rs) 1 (s.ea imm rs).toNat (bytesOf (s.x rt) 0 1) State.advance := rfl

theorem exec_sh : exec (.sh rt imm rs) s =
    storeAt s (s.ea imm rs) 2 (s.ea imm rs).toNat (bytesOf (s.x rt) 0 2) State.advance := rfl

theorem exec_sw : exec (.sw rt imm rs) s =
    storeAt s (s.ea imm rs) 4 (s.ea imm rs).toNat (bytesOf (s.x rt) 0 4) State.advance := rfl

theorem exec_swc1 : exec (.swc1 ft imm rs) s =
    storeAt s (s.ea imm rs) 4 (s.ea imm rs).toNat (bytesOf (s.f ft) 0 4) State.advance := rfl

theorem exec_sdc1 (heven : ft.toNat % 2 = 0) : exec (.sdc1 ft imm rs) s =
    storeAt s (s.ea imm rs) 8 (s.ea imm rs).toNat (bytesOf (s.f ft) 0 4 ++ bytesOf (s.f (ft + 1)) 0 4) State.advance :=
  withEven_singleton heven _

theorem exec_swl : exec (.swl rt imm rs) s = storeAt s (s.ea imm rs) 1 (wordBase (s.ea imm rs))
    (bytesOf (s.x rt) (3 - (s.ea imm rs).toNat % 4) ((s.ea imm rs).toNat % 4 + 1)) State.advance := rfl

theorem exec_swr : exec (.swr rt imm rs) s = storeAt s (s.ea imm rs) 1 (s.ea imm rs).toNat
    (bytesOf (s.x rt) 0 (4 - (s.ea imm rs).toNat % 4)) State.advance := rfl

end Accesses

/-! ### The two checks of an access, byte by byte (43_load_store.md R201) -/

section Checks
variable {s t : State} {ea : Word} {width first n : Nat} {bs : List Byte} {after : State → State}

theorem loadAt_of_readable (halign : ea.toNat % width = 0) (hread : ∀ k, k < n → s.launch.readable (first + k) = true) :
    loadAt s ea width first n t = .next t :=
  loadAt_of_ok halign ((s.launch.allReadable_iff first n).mpr hread)

/-- One byte that is not readable refuses the whole load (20_memory.md R71). -/
theorem loadAt_raises (h : ea.toNat % width ≠ 0 ∨ ∃ k, k < n ∧ s.launch.readable (first + k) = false) :
    loadAt s ea width first n t = raise (.addressErrorLoad ea) s := by
  refine loadAt_of_bad (h.imp_right fun ⟨k, hk, hbad⟩ => Bool.eq_false_iff.mpr fun hall => ?_)
  exact Bool.eq_false_iff.mp hbad ((s.launch.allReadable_iff first n).mp hall k hk)

theorem storeAt_of_writable (halign : ea.toNat % width = 0)
    (hwrite : ∀ k, k < bs.length → s.launch.writable (first + k) = true) :
    storeAt s ea width first bs after = .next (after { s with mem := s.mem.writeBytes first bs }) :=
  storeAt_of_ok halign ((s.launch.allWritable_iff first bs.length).mpr hwrite)

/-- One byte that is not writable refuses the whole store (20_memory.md R71). -/
theorem storeAt_raises (h : ea.toNat % width ≠ 0 ∨ ∃ k, k < bs.length ∧ s.launch.writable (first + k) = false) :
    storeAt s ea width first bs after = raise (.addressErrorStore ea) s := by
  refine storeAt_of_bad (h.imp_right fun ⟨k, hk, hbad⟩ => Bool.eq_false_iff.mpr fun hall => ?_)
  exact Bool.eq_false_iff.mp hbad ((s.launch.allWritable_iff first bs.length).mp hall k hk)

end Checks

/-! ### The address errors -/

/-- Settles O36: each load is `loadAt` of its bytes, which raises when a check fails. -/
theorem loadsRaise : Obligations.LoadsRaise := by
  intro s rt ft rs imm
  refine ⟨fun h => ?lb, fun h => ?lbu, fun h => ?lh, fun h => ?lhu, fun h => ?lw, fun h => ?ll, fun h => ?lwc1,
    fun heven h => ?ldc1, fun h => ?lwl, fun h => ?lwr⟩
  case lb => rw [exec_lb, loadAt_raises (.inr h)]
  case lbu => rw [exec_lbu, loadAt_raises (.inr h)]
  case lh => rw [exec_lh, loadAt_raises h]
  case lhu => rw [exec_lhu, loadAt_raises h]
  case lw => rw [exec_lw, loadAt_raises h]
  case ll => rw [exec_ll, exec_lw, loadAt_raises h]
  case lwc1 => rw [exec_lwc1, loadAt_raises h]
  case ldc1 => rw [exec_ldc1 s ft rs imm heven, loadAt_raises h]
  case lwl => rw [exec_lwl, loadAt_raises (.inr h)]
  case lwr => rw [exec_lwr, loadAt_raises (.inr h)]

/-- Settles O37: each store is `storeAt` of its bytes, which raises when a check fails. -/
theorem storesRaise : Obligations.StoresRaise := by
  intro s rt ft rs imm
  refine ⟨fun h => ?sb, fun h => ?sh, fun h => ?sw, fun h => ?sc, fun h => ?swc1, fun heven h => ?sdc1, fun h => ?swl,
    fun h => ?swr⟩
  case sb => rw [exec_sb, storeAt_raises (.inr (by simpa using h))]
  case sh => rw [exec_sh, storeAt_raises (by rwa [bytesOf_length])]
  case sw => rw [exec_sw, storeAt_raises (by rwa [bytesOf_length])]
  case sc => rw [exec_sc, storeAt_raises (by rwa [bytesOf_length])]
  case swc1 => rw [exec_swc1, storeAt_raises (by rwa [bytesOf_length])]
  case sdc1 => rw [exec_sdc1 s ft rs imm heven, storeAt_raises (by rwa [List.length_append, bytesOf_length, bytesOf_length])]
  case swl => rw [exec_swl, storeAt_raises (.inr (by rwa [bytesOf_length]))]
  case swr => rw [exec_swr, storeAt_raises (.inr (by rwa [bytesOf_length]))]

/-! ### Loads that complete -/

/-- The effective address is the base plus the signed offset modulo 2^32 (43_load_store.md R200). -/
theorem State.ea_toNat (s : State) (imm : Imm16) (rs : Reg) :
    ((s.ea imm rs).toNat : Int) = ((s.x rs).toNat + imm.toInt) % 2 ^ 32 := by
  have hword : s.ea imm rs = BitVec.ofInt 32 ((s.x rs).toNat + imm.toInt) := by
    rw [State.ea, sext_eq_ofInt, BitVec.ofInt_add, BitVec.ofInt_natCast, BitVec.ofNat_toNat, BitVec.setWidth_eq]
  rw [hword, BitVec.toNat_ofInt]
  exact Int.toNat_of_nonneg (Int.emod_nonneg _ (by decide))

/-- A write to a pair and the default advance change that pair and pc alone. -/
theorem onlyPair_setD_advance (s : State) (r : Reg) (v : DWord) : OnlyPair s (s.setD r v).advance r v :=
  ⟨rfl, s.f_setD r v, fun _ => rfl, ⟨rfl, rfl⟩, fun _ => rfl, ⟨rfl, rfl, rfl, rfl⟩, fun _ => rfl, ⟨rfl, rfl, rfl⟩⟩

/-- Bytes 0 to 3 of a doubleword in memory are those of the word at its address, bytes 4 to 7 those of the next word
(43_load_store.md R207). -/
theorem byte_of_two_words (m : Memory) (a : Nat) {k : Nat} (hk : k < 8) :
    (m.read32 (a + 4) ++ m.read32 a).extractLsb' (8 * k) 8 = m.read (a + k) := by
  by_cases hlow : k < 4
  · rw [BitVec.extractLsb'_append_eq_of_add_le (by omega)]
    exact byteOf_read32 m a k hlow
  · have hhigh := byteOf_read32 m (a + 4) (k - 4) (by omega)
    rw [byteOf, show 8 * (k - 4) = 8 * k - 32 by omega, show a + 4 + (k - 4) = a + k by omega] at hhigh
    rw [BitVec.extractLsb'_append_eq_of_le (by omega), hhigh]

section Loads
variable {s : State} {rs : Reg} {imm : Imm16}

theorem lw_completes (rt : Reg) (halign : (s.ea imm rs).toNat % 4 = 0)
    (hread : ∀ k, k < 4 → s.launch.readable ((s.ea imm rs).toNat + k) = true) :
    ∃ t, exec (.lw rt imm rs) s = .next t ∧ OnlyGpr s t rt (s.mem.read32 (s.ea imm rs).toNat) :=
  completes_onlyGpr ((exec_lw s rt rs imm).trans (loadAt_of_readable halign hread)) rfl

/-- A byte needs no alignment (43_load_store.md R204). -/
theorem loadByte_completes {t : State} (hread : s.launch.readable (s.ea imm rs).toNat = true) :
    loadAt s (s.ea imm rs) 1 (s.ea imm rs).toNat 1 t = .next t :=
  loadAt_of_readable (Nat.mod_one _) (by simpa using hread)

theorem lbu_completes (rt : Reg) (hread : s.launch.readable (s.ea imm rs).toNat = true) :
    ∃ t, exec (.lbu rt imm rs) s = .next t ∧
      OnlyGpr s t rt (BitVec.ofNat 32 (s.mem.read (s.ea imm rs).toNat).toNat) :=
  completes_onlyGpr ((exec_lbu s rt rs imm).trans (loadByte_completes hread)) (BitVec.ofNat_toNat 32 _).symm

end Loads

/-- Settles O31: an admitted load writes the word of memory, whose bytes are those of `byteOf_read32`. -/
theorem wordLoads : Obligations.WordLoads := by
  refine ⟨State.ea_toNat, fun s rt ft rs imm => ?_⟩
  refine ⟨fun halign hread => ?lw, fun halign hread => ?ll, fun halign hread => ?lwc1, fun heven halign hread => ?ldc1⟩
  case lw =>
    obtain ⟨t, hexec, honly⟩ := lw_completes rt halign hread
    exact ⟨t, _, hexec, honly, byteOf_read32 s.mem _⟩
  case ll =>
    obtain ⟨t, hexec, honly⟩ := lw_completes rt halign hread
    exact ⟨t, _, (exec_ll s rt rs imm).trans hexec, honly, byteOf_read32 s.mem _⟩
  case lwc1 =>
    have hexec := (exec_lwc1 s ft rs imm).trans (loadAt_of_readable halign hread)
    exact ⟨_, _, hexec, onlyFpr_setF_advance s ft _, rfl, byteOf_read32 s.mem _⟩
  case ldc1 =>
    have hexec := (exec_ldc1 s ft rs imm heven).trans (loadAt_of_readable halign hread)
    exact ⟨_, _, hexec, onlyPair_setD_advance s ft _, rfl, fun _ hk => byte_of_two_words s.mem _ hk⟩

/-- Settles O32: sign extension keeps the signed value, zero extension the unsigned one. -/
theorem narrowLoads : Obligations.NarrowLoads := by
  intro s rt rs imm
  refine ⟨fun hread => ⟨?lb, ?lbu⟩, fun halign hread => ⟨?lh, ?lhu⟩⟩
  case lb => exact completes_onlyGpr ((exec_lb s rt rs imm).trans (loadByte_completes hread)) rfl
  case lbu => exact lbu_completes rt hread
  case lh => exact completes_onlyGpr ((exec_lh s rt rs imm).trans (loadAt_of_readable halign hread)) rfl
  case lhu =>
    have hvalue := BitVec.ofNat_toNat 32 (s.mem.read16 (s.ea imm rs).toNat)
    rw [Memory.read16_toNat] at hvalue
    exact completes_onlyGpr ((exec_lhu s rt rs imm).trans (loadAt_of_readable halign hread)) hvalue.symm

/-! ### Stores that complete -/

section Stores
variable {s : State} {i : Instr} {ea : Word} {width first n : Nat} {bs : List Byte} {byte : Nat → Byte}

/-- Writing `n` bytes inside the address space to canonical memory stores exactly those bytes. -/
theorem stored_writeBytes (hwf : s.mem.wf) (hle : first + bs.length ≤ 2 ^ 32) (hlen : bs.length = n)
    (hbyte : ∀ k (hk : k < bs.length), bs[k] = byte k) :
    Stored s { s with mem := s.mem.writeBytes first bs } first n byte := by
  subst hlen
  intro a
  split
  case isTrue hin =>
    have hread := Memory.read_writeBytes_lt bs first (a - first) (by omega) hle hwf
    rw [show first + (a - first) = a by omega] at hread
    exact hread.trans (hbyte _ _)
  case isFalse hout => exact Memory.read_writeBytes_ne bs s.mem first a (by omega)

/-- What an admitted store leaves in memory: every writable byte lies in the address space, so `stored_writeBytes` applies. -/
theorem stored_of_writable (hwf : s.mem.wf) (hpos : 0 < n) (hlen : bs.length = n)
    (hbyte : ∀ k (hk : k < bs.length), bs[k] = byte k) (hwrite : ∀ k, k < n → s.launch.writable (first + k) = true) :
    Stored s { s with mem := s.mem.writeBytes first bs } first n byte := by
  have hle : first + n ≤ 2 ^ 32 := Launch.allWritable_le hpos ((s.launch.allWritable_iff first n).mpr hwrite)
  exact stored_writeBytes hwf (hlen ▸ hle) hlen hbyte

/-- An instruction that is a store and the default advance writes its bytes of memory and changes nothing else but pc. -/
theorem completes_onlyMem (h : exec i s = storeAt s ea width first bs State.advance) (hwf : s.mem.wf) (hpos : 0 < n)
    (hlen : bs.length = n) (hbyte : ∀ k (hk : k < bs.length), bs[k] = byte k) (halign : ea.toNat % width = 0)
    (hwrite : ∀ k, k < n → s.launch.writable (first + k) = true) :
    ∃ t, exec i s = .next t ∧ OnlyMem s t first n byte :=
  ⟨_, h.trans (storeAt_of_writable halign (hlen ▸ hwrite)), rfl, stored_of_writable hwf hpos hlen hbyte hwrite,
    fun _ => rfl, ⟨rfl, rfl⟩, fun _ => rfl, fun _ => rfl, ⟨rfl, rfl, rfl, rfl⟩, ⟨rfl, rfl, rfl⟩, rfl⟩

/-- The bytes from byte 0 on are numbered as they are stored. -/
theorem bytesOf_zero_getElem (v : Word) (n k : Nat) (hk : k < (bytesOf v 0 n).length) :
    (bytesOf v 0 n)[k] = byteOf v k := by
  rw [bytesOf_getElem, Nat.zero_add]

/-- The eight bytes that `sdc1` stores: those of the even register, then those of the next one (43_load_store.md R217). -/
theorem bytesOf_append_getElem (v w : Word) (k : Nat) (hk : k < (bytesOf v 0 4 ++ bytesOf w 0 4).length) :
    (bytesOf v 0 4 ++ bytesOf w 0 4)[k] = if k < 4 then byteOf v k else byteOf w (k - 4) := by
  simp [List.getElem_append]

end Stores

theorem sw_completes {s : State} {rs : Reg} {imm : Imm16} (rt : Reg) (hwf : s.mem.wf)
    (halign : (s.ea imm rs).toNat % 4 = 0)
    (hwrite : ∀ k, k < 4 → s.launch.writable ((s.ea imm rs).toNat + k) = true) :
    ∃ t, exec (.sw rt imm rs) s = .next t ∧ OnlyMem s t (s.ea imm rs).toNat 4 (fun k => byteOf (s.x rt) k) :=
  completes_onlyMem (exec_sw s rt rs imm) hwf (by decide) (bytesOf_length _ _ _) (bytesOf_zero_getElem _ _) halign hwrite

/-- Settles O34: an admitted store of `bytesOf` its register; `sc` then writes 1 to rt. -/
theorem stores : Obligations.Stores := by
  refine ⟨fun s rt ft rs imm hwf => ⟨fun hwrite => ?sb, fun halign hwrite => ?sh, sw_completes rt hwf,
    fun halign hwrite => ?swc1, fun heven halign hwrite => ?sdc1⟩, fun s rt rs imm hwf halign hwrite => ?sc⟩
  case sb =>
    exact completes_onlyMem (exec_sb s rt rs imm) hwf (by decide) (bytesOf_length _ _ _) (bytesOf_zero_getElem _ _)
      (Nat.mod_one _) hwrite
  case sh =>
    exact completes_onlyMem (exec_sh s rt rs imm) hwf (by decide) (bytesOf_length _ _ _) (bytesOf_zero_getElem _ _)
      halign hwrite
  case swc1 =>
    exact completes_onlyMem (exec_swc1 s ft rs imm) hwf (by decide) (bytesOf_length _ _ _) (bytesOf_zero_getElem _ _)
      halign hwrite
  case sdc1 =>
    exact completes_onlyMem (exec_sdc1 s ft rs imm heven) hwf (by decide) (by simp) (bytesOf_append_getElem _ _)
      halign hwrite
  case sc =>
    have hexec := exec_sc.trans (storeAt_of_writable halign ((bytesOf_length (s.x rt) 0 4).symm ▸ hwrite))
    have hstored := stored_of_writable hwf (by decide) (bytesOf_length _ _ _) (bytesOf_zero_getElem (s.x rt) 4) hwrite
    exact ⟨_, hexec, hstored, State.x_setX _ rt 1, rfl, ⟨rfl, rfl⟩, fun _ => rfl, fun _ => rfl, ⟨rfl, rfl, rfl, rfl⟩,
      ⟨rfl, rfl, rfl⟩, rfl⟩

/-! ### A load after a store -/

section StoreThenLoad
variable {s t : State}

theorem State.ea_eq_of_sameGpr (h : SameGpr s t) (imm : Imm16) (rs : Reg) : t.ea imm rs = s.ea imm rs := by
  rw [State.ea, State.ea, h rs]

/-- A stored byte is read back. -/
theorem Stored.read_add {first n : Nat} {byte : Nat → Byte} (h : Stored s t first n byte) {k : Nat} (hk : k < n) :
    t.mem.read (first + k) = byte k := by
  rw [h, if_pos (by omega), Nat.add_sub_cancel_left]

/-- A stored word is read back. -/
theorem Stored.read32_eq {first : Nat} {v : Word} (h : Stored s t first 4 (fun k => byteOf v k)) :
    t.mem.read32 first = v :=
  Word.ext_byteOf fun k hk => (byteOf_read32 t.mem first k hk).trans (h.read_add hk)

/-- The register that an instruction writes, register 0 apart, holds what it wrote. -/
theorem OnlyGpr.x_eq {r : Reg} {v : Word} (h : OnlyGpr s t r v) (hr : r ≠ 0) : t.x r = v := by
  obtain ⟨-, hx, -⟩ := h
  rw [hx, if_pos ⟨rfl, hr⟩]

end StoreThenLoad

/-- Settles O38: the store leaves the registers and the launch parameters alone, so both loads are admitted and find the stored
bytes. -/
theorem storeThenLoad : Obligations.StoreThenLoad := by
  intro s rt rd rs imm imm' k hwf hrd hk halign hwrite hread hea
  obtain ⟨t, hsw, -, hstored, hgpr, -, -, -, -, ⟨hlaunch, -⟩, -⟩ := sw_completes rt hwf halign hwrite
  rw [← hlaunch] at hread
  have hword : t.ea imm rs = s.ea imm rs := State.ea_eq_of_sameGpr hgpr imm rs
  have hbyte : (t.ea imm' rs).toNat = (s.ea imm rs).toNat + k := by rw [State.ea_eq_of_sameGpr hgpr, hea]
  obtain ⟨u, hlw, hu⟩ := lw_completes (s := t) rd (hword ▸ halign) (hword ▸ hread)
  obtain ⟨w, hlbu, hw⟩ := lbu_completes (s := t) rd (hbyte ▸ hread k hk)
  refine ⟨t, u, w, hsw, hlw, ?_, hlbu, ?_⟩
  · rw [hu.x_eq hrd, hword, hstored.read32_eq]
  · rw [hw.x_eq hrd, hbyte, hstored.read_add hk, byteOf_toNat, BitVec.toNat_ofNat]
    omega

end Sys2Proof.Machine
end

section
/-! Encoding (30_encoding.md): the decoder and the encoder undo each other. Every row of the opcode table fixes the bits of its
mask and reads the others as operands. An instruction is read back from its word because each field is read back from the place
it was put in (`build_encode`); a word is written back because two words with the same fixed bits and the same operands are one
word (`eq_of_build_eq`). That at most one row selects a word, the zero word apart, makes the decoder find the row of the
instruction (`decodeWord_encode`). After the encoding: the instructions whose operands are immediates, shift amounts and jump
targets, and the counts of leading bits. -/

namespace Sys2Proof.Laws.EncodeMatches

/-- The word of every instruction has the fixed bits of its row. -/
theorem of_every_instr (i : Instr) : Statement i := by
  cases i
  exacts [
    -- 40_integer_alu.md
    add .., addi .., addiu .., addu .., and .., andi .., clo .., clz .., lui .., movn .., movz .., nop, nor .., or .., ori ..,
    sll .., sllv .., slt .., slti .., sltiu .., sltu .., sra .., srav .., srl .., srlv .., sub .., subu .., xor .., xori ..,
    -- 41_multiply_divide.md
    div .., divu .., madd .., maddu .., mfhi .., mflo .., msub .., msubu .., mthi .., mtlo .., mul .., mult .., multu ..,
    -- 42_branch_jump.md
    bc1f .., bc1t .., beq .., bgez .., bgezal .., bgtz .., blez .., bltz .., bltzal .., bne .., j .., jal .., jalr .., jr ..,
    -- 43_load_store.md
    lb .., lbu .., ldc1 .., lh .., lhu .., ll .., lw .., lwc1 .., lwl .., lwr .., sb .., sc .., sdc1 .., sh .., sw ..,
    swc1 .., swl .., swr ..,
    -- 44_trap_system.md
    brk .., eret, mfc0 .., mtc0 .., syscall .., teq .., teqi .., tge .., tgei .., tgeiu .., tgeu .., tlt .., tlti ..,
    tltiu .., tltu .., tne .., tnei ..,
    -- 45_fp_arithmetic.md
    absD .., absS .., addD .., addS .., divD .., divS .., mulD .., mulS .., negD .., negS .., sqrtD .., sqrtS .., subD ..,
    subS ..,
    -- 46_fp_compare_convert_move.md
    cEqD .., cEqS .., cLeD .., cLeS .., cLtD .., cLtS .., ceilWD .., ceilWS .., cvtDS .., cvtDW .., cvtSD .., cvtSW ..,
    cvtWD .., cvtWS .., floorWD .., floorWS .., mfc1 .., movD .., movS .., movf .., movfD .., movfS .., movnD .., movnS ..,
    movt .., movtD .., movtS .., movzD .., movzS .., mtc1 .., roundWD .., roundWS .., truncWD .., truncWS ..]

end Sys2Proof.Laws.EncodeMatches

namespace Sys2Proof

/-! ### The row of an instruction -/

/-- The place of an instruction's row in the opcode table: the rows stand in the order of the constructors of `Instr`, but for
`nop`, which comes first (log 9). -/
def tableIndex (i : Instr) : Nat :=
  if i.ctorIdx < Instr.nop.ctorIdx then i.ctorIdx + 1 else if i = .nop then 0 else i.ctorIdx

theorem opcodeRows_tableIndex (i : Instr) : opcodeRows[tableIndex i]? = some (rowOf i) := by
  cases i <;> rfl

theorem rowOf_mem (i : Instr) : rowOf i ∈ opcodeRows := List.mem_of_getElem? (opcodeRows_tableIndex i)

theorem rowOf_selects_encode (i : Instr) : (rowOf i).selects (encode i) = true :=
  beq_iff_eq.mpr (Laws.EncodeMatches.of_every_instr i)

/-- Every row builds instructions of its own. -/
theorem rowOf_build {r : Row} (hr : r ∈ opcodeRows) (w : Word) : rowOf (r.build w) = r := by
  have hmap : opcodeRows.map (fun r => rowOf (r.build w)) = opcodeRows.map id := rfl
  exact List.map_inj_left.mp hmap r hr

theorem mnemonic_inj {a b : Row} (ha : a ∈ opcodeRows) (hb : b ∈ opcodeRows) (h : a.mnemonic = b.mnemonic) : a = b := by
  have hnodup : (opcodeRows.map Row.mnemonic).Nodup := by decide +kernel
  exact List.inj_on_of_nodup_map hnodup ha hb h

/-! ### No word but zero selects two rows -/

/-- `nop` selects the zero word alone (30_encoding.md R92). -/
theorem eq_zero_of_nop_selects {r : Row} (hr : r ∈ opcodeRows) (hname : r.mnemonic = "nop") {w : Word}
    (hsel : r.selects w = true) : w = 0 := by
  have hnop : r = rowNop := mnemonic_inj hr (rowOf_mem .nop) hname
  rw [hnop] at hsel
  have hfixed : w &&& BitVec.allOnes 32 = 0 := beq_iff_eq.mp hsel
  rwa [BitVec.and_allOnes] at hfixed

/-- Where a word that is not zero selects both rows, they are one. -/
def SelectedOnce (w : Word) (a b : Row) : Prop := a.selects w = true → b.selects w = true → a = b ∨ w = 0

/-- Two rows of the table conflict, so that no word selects both, or are `nop` and `sll`, which share the zero word. -/
theorem opcodeRows_selectedOnce (w : Word) {a b : Row} (ha : a ∈ opcodeRows) (hb : b ∈ opcodeRows) : SelectedOnce w a b := by
  have hsymm : Std.Symm (SelectedOnce w) := ⟨fun _ _ h hsela hselb => (h hselb hsela).imp_left Eq.symm⟩
  have hpairs : opcodeRows.Pairwise (SelectedOnce w) := by
    refine opcodeRows_pairwise.imp_of_mem fun hmem _ hpair hsela hselb => ?_
    obtain hconflict | ⟨hnop, -⟩ := hpair
    · exact absurd ⟨hsela, hselb⟩ (Row.conflicts_not_both hconflict w)
    · exact .inr (eq_zero_of_nop_selects hmem hnop hsela)
  exact hpairs.forall_of_forall (fun _ _ _ _ => .inl rfl) ha hb

/-- Settles O4. -/
theorem rowsSelectOnce : Obligations.RowsSelectOnce := by
  intro w a b ha hb hsela hselb
  exact (opcodeRows_selectedOnce w ha hb hsela hselb).imp_left (congrArg Row.mnemonic)

/-! ### The decoder finds the row -/

/-- The zero word is `nop` (30_encoding.md R92; log 9). -/
theorem decodeWord_zero : decodeWord 0 = .ok .nop := rfl

/-- The one row that a word selects decodes it. -/
theorem decodeWord_of_selects {r : Row} (hr : r ∈ opcodeRows) {w : Word} (hsel : r.selects w = true) (hw : w ≠ 0) :
    decodeWord w = .ok (r.build w) := by
  cases hfind : opcodeRows.find? (fun r => r.selects w) with
  | none => exact absurd hsel (List.find?_eq_none.mp hfind r hr)
  | some q =>
    have hselq : q.selects w = true := List.find?_some (p := (Row.selects · w)) hfind
    have hq : q = r :=
      (opcodeRows_selectedOnce w (List.mem_of_find?_eq_some hfind) hr hselq hsel).resolve_right hw
    simp only [decodeWord, hfind, hq]

/-- A word that decodes selects a row, and the row builds the instruction. -/
theorem exists_row_of_decodeWord {w : Word} {i : Instr} (h : decodeWord w = .ok i) :
    ∃ r ∈ opcodeRows, r.selects w = true ∧ r.build w = i := by
  unfold decodeWord at h
  split at h
  · rename_i r hfind
    exact ⟨r, List.mem_of_find?_eq_some hfind, List.find?_some (p := (Row.selects · w)) hfind, Except.ok.inj h⟩
  · cases h

/-! ### An instruction is read back from its word -/

@[simp] theorem ccOf_wordR (op rs cc tf rd sa funct) : ccOf (wordR op rs (ccField cc tf) rd sa funct) = cc := by
  rw [ccOf_eq, rtOf_wordR, ccField_cc]

@[simp] theorem ccOf_wordI (op rs cc tf imm) : ccOf (wordI op rs (ccField cc tf) imm) = cc := by
  rw [ccOf_eq, rtOf_wordI, ccField_cc]

@[simp] theorem ccCmpOf_wordR (op rs rt rd cc funct) : ccCmpOf (wordR op rs rt rd (ccCmpField cc) funct) = cc := by
  rw [ccCmpOf_eq, saOf_wordR, ccCmpField_cc]

/-- The row of an instruction builds it from its word: format by format, each field is read where it was put (30_encoding.md
R93). -/
theorem build_encode (i : Instr) : (rowOf i).build (encode i) = i := by
  cases i with
  | nop | eret => rfl
  | j | jal =>
    conv_lhs => whnf
    simp only [encode, indexOf_wordJ]
  | brk | syscall =>
    conv_lhs => whnf
    simp only [encode, code20Of_wordCode]
  | teq | tge | tgeu | tlt | tltu | tne =>
    conv_lhs => whnf
    simp only [encode, rsOf_wordTrap, rtOf_wordTrap, code10Of_wordTrap]
  | addi | addiu | andi | lui | ori | slti | sltiu | xori | beq | bgez | bgezal | bgtz | blez | bltz | bltzal | bne | lb | lbu
  | ldc1 | lh | lhu | ll | lw | lwc1 | lwl | lwr | sb | sc | sdc1 | sh | sw | swc1 | swl | swr | teqi | tgei | tgeiu | tlti
  | tltiu | tnei =>
    conv_lhs => whnf
    simp only [encode, rsOf_wordI, rtOf_wordI, immOf_wordI]
  | bc1f | bc1t =>
    conv_lhs => whnf
    simp only [encode, ccOf_wordI, immOf_wordI]
  | movf | movt | movfS | movfD | movtS | movtD =>
    conv_lhs => whnf
    simp only [encode, rsOf_wordR, ccOf_wordR, rdOf_wordR, saOf_wordR]
  | cEqS | cEqD | cLeS | cLeD | cLtS | cLtD =>
    conv_lhs => whnf
    simp only [encode, rtOf_wordR, rdOf_wordR, ccCmpOf_wordR]
  | _ =>
    conv_lhs => whnf
    simp only [encode, rsOf_wordR, rtOf_wordR, rdOf_wordR, saOf_wordR]

theorem decodeWord_encode_of_ne_zero {i : Instr} (h : encode i ≠ 0) : decodeWord (encode i) = .ok i := by
  rw [decodeWord_of_selects (rowOf_mem i) (rowOf_selects_encode i) h, build_encode]

/-- The rows that the zero word selects (30_encoding.md R92). -/
theorem nop_or_sll_of_selects_zero : ∀ r ∈ opcodeRows, r.selects 0 = true → r.mnemonic = "nop" ∨ r.mnemonic = "sll" := by
  decide +kernel

/-- Of the two terms with the zero word, `nop` is the one that is an instruction. -/
theorem eq_nop_of_encode_eq_zero {i : Instr} (hwf : i.wellFormed = true) (h : encode i = 0) : i = .nop := by
  have hsel := rowOf_selects_encode i
  have hbuild := build_encode i
  rw [h] at hsel hbuild
  obtain hname | hname := nop_or_sll_of_selects_zero _ (rowOf_mem i) hsel
  · rw [mnemonic_inj (rowOf_mem i) (rowOf_mem .nop) hname] at hbuild
    exact hbuild.symm
  · rw [mnemonic_inj (rowOf_mem i) (rowOf_mem (.sll 0 0 0)) hname] at hbuild
    rw [← hbuild] at hwf
    cases hwf

theorem decodeWord_encode {i : Instr} (hwf : i.wellFormed = true) : decodeWord (encode i) = .ok i := by
  by_cases h : encode i = 0
  · rw [h, decodeWord_zero, eq_nop_of_encode_eq_zero hwf h]
  · exact decodeWord_encode_of_ne_zero h

/-- The bytes of a word make up the word (20_memory.md R62). -/
theorem wordOfBytes_bytesOfWord (w : Word) :
    wordOfBytes (w.extractLsb' 0 8) (w.extractLsb' 8 8) (w.extractLsb' 16 8) (w.extractLsb' 24 8) = w := by
  unfold wordOfBytes
  rw [BitVec.extractLsb'_append_extractLsb'_eq_extractLsb' (show 24 = 16 + 8 from rfl),
    BitVec.extractLsb'_append_extractLsb'_eq_extractLsb' (show 16 = 8 + 8 from rfl),
    BitVec.extractLsb'_append_extractLsb'_eq_extractLsb' (show 8 = 0 + 8 from rfl)]
  exact BitVec.extractLsb'_eq_self

theorem decode_bytesOfWord {w : Word} {i : Instr} (h : decodeWord w = .ok i) : decode (bytesOfWord w) = .ok (i, []) := by
  simp only [bytesOfWord, decode, wordOfBytes_bytesOfWord, h]

/-- Settles O1. -/
theorem decodeEncode : Obligations.DecodeEncode := fun _ hwf => decode_bytesOfWord (decodeWord_encode hwf)

/-! ### A word is written back from its instruction -/

/-- The words have the same bits where the mask is 1. -/
def SameOn (mask w v : Word) : Prop := w &&& mask = v &&& mask

section SameOn
variable {w v : Word}

theorem sameOn_iff {mask : Word} : SameOn mask w v ↔ ∀ k, mask.getLsbD k = true → w.getLsbD k = v.getLsbD k := by
  constructor
  · intro h k hk
    have hbit := congrArg (BitVec.getLsbD · k) h
    simpa only [BitVec.getLsbD_and, hk, Bool.and_true] using hbit
  · intro h
    apply BitVec.eq_of_getLsbD_eq
    intro k _
    rw [BitVec.getLsbD_and, BitVec.getLsbD_and]
    cases hk : mask.getLsbD k with
    | true => rw [h k hk]
    | false => rw [Bool.and_false, Bool.and_false]

theorem SameOn.or {a b : Word} (ha : SameOn a w v) (hb : SameOn b w v) : SameOn (a ||| b) w v := by
  rw [sameOn_iff] at *
  intro k hk
  rw [BitVec.getLsbD_or, Bool.or_eq_true] at hk
  exact hk.elim (ha k) (hb k)

/-- Words with the same fixed bits and the same operand bits are one word when these two kinds are all the bits there are. -/
theorem eq_of_covered {fixed operands : Word} (hfixed : SameOn fixed w v) (hoperands : SameOn operands w v)
    (hall : fixed ||| operands = BitVec.allOnes 32) : w = v := by
  have h : w &&& (fixed ||| operands) = v &&& (fixed ||| operands) := hfixed.or hoperands
  rwa [hall, BitVec.and_allOnes, BitVec.and_allOnes] at h

/-- The mask of the field of `len` bits from bit `lo`. -/
def fieldMask (lo len : Nat) : Word := (BitVec.allOnes len).setWidth 32 <<< lo

/-- A field that both words agree in. -/
theorem sameOn_field {lo len : Nat} (h : w.extractLsb' lo len = v.extractLsb' lo len) : SameOn (fieldMask lo len) w v := by
  rw [sameOn_iff]
  intro k hk
  have hrange : lo ≤ k ∧ k - lo < len := by
    simp only [fieldMask, BitVec.getLsbD_shiftLeft, BitVec.getLsbD_setWidth, BitVec.getLsbD_allOnes, Bool.and_eq_true,
      Bool.not_eq_true', decide_eq_true_eq, decide_eq_false_iff_not] at hk
    omega
  have hbit := congrArg (BitVec.getLsbD · (k - lo)) h
  simpa [hrange] using hbit

theorem sameOn_rs (h : rsOf w = rsOf v) : SameOn (fieldMask 21 5) w v := sameOn_field h
theorem sameOn_rt (h : rtOf w = rtOf v) : SameOn (fieldMask 16 5) w v := sameOn_field h
theorem sameOn_rd (h : rdOf w = rdOf v) : SameOn (fieldMask 11 5) w v := sameOn_field h
theorem sameOn_sa (h : saOf w = saOf v) : SameOn (fieldMask 6 5) w v := sameOn_field h
theorem sameOn_imm (h : immOf w = immOf v) : SameOn (fieldMask 0 16) w v := sameOn_field h
theorem sameOn_index (h : indexOf w = indexOf v) : SameOn (fieldMask 0 26) w v := sameOn_field h
theorem sameOn_cc (h : ccOf w = ccOf v) : SameOn (fieldMask 18 3) w v := sameOn_field h
theorem sameOn_ccCmp (h : ccCmpOf w = ccCmpOf v) : SameOn (fieldMask 8 3) w v := sameOn_field h
theorem sameOn_code20 (h : code20Of w = code20Of v) : SameOn (fieldMask 6 20) w v := sameOn_field h
theorem sameOn_code10 (h : code10Of w = code10Of v) : SameOn (fieldMask 6 10) w v := sameOn_field h

/-- A row builds an instruction from one word only: what it does not fix it reads. One case for each way in which a row's mask
leaves fields for the operands; `fixed` is the mask that the rows of the case share. -/
theorem eq_of_build_eq {i : Instr} (hfixed : SameOn (rowOf i).mask w v) (h : (rowOf i).build w = (rowOf i).build v) :
    w = v := by
  cases i with
  | nop | eret => exact eq_of_covered (fixed := 0xFFFFFFFF) hfixed hfixed rfl
  | add | addu | and | clo | clz | movn | movz | nor | or | slt | sltu | sub | subu | xor | mul | sllv | srav | srlv =>
    injection h
    exact eq_of_covered (fixed := 0xFC0007FF) hfixed ((sameOn_rs ‹_›).or ((sameOn_rt ‹_›).or (sameOn_rd ‹_›))) rfl
  | jalr =>
    injection h
    exact eq_of_covered (fixed := 0xFC1F003F) hfixed ((sameOn_rs ‹_›).or ((sameOn_rd ‹_›).or (sameOn_sa ‹_›))) rfl
  | jr =>
    injection h
    exact eq_of_covered (fixed := 0xFC1FF83F) hfixed ((sameOn_rs ‹_›).or (sameOn_sa ‹_›)) rfl
  | div | divu | madd | maddu | msub | msubu | mult | multu =>
    injection h
    exact eq_of_covered (fixed := 0xFC00FFFF) hfixed ((sameOn_rs ‹_›).or (sameOn_rt ‹_›)) rfl
  | mfhi | mflo =>
    injection h
    exact eq_of_covered (fixed := 0xFFFF07FF) hfixed (sameOn_rd ‹_›) rfl
  | mthi | mtlo =>
    injection h
    exact eq_of_covered (fixed := 0xFC1FFFFF) hfixed (sameOn_rs ‹_›) rfl
  | mfc0 | mtc0 | mfc1 | mtc1 =>
    injection h
    exact eq_of_covered (fixed := 0xFFE007FF) hfixed ((sameOn_rt ‹_›).or (sameOn_rd ‹_›)) rfl
  | movf | movt =>
    injection h
    exact eq_of_covered (fixed := 0xFC0307FF) hfixed ((sameOn_rs ‹_›).or ((sameOn_cc ‹_›).or (sameOn_rd ‹_›))) rfl
  | sll | sra | srl | addD | addS | divD | divS | mulD | mulS | subD | subS | movnD | movnS | movzD | movzS =>
    injection h
    exact eq_of_covered (fixed := 0xFFE0003F) hfixed ((sameOn_rt ‹_›).or ((sameOn_rd ‹_›).or (sameOn_sa ‹_›))) rfl
  | absD | absS | negD | negS | sqrtD | sqrtS | ceilWD | ceilWS | cvtDS | cvtDW | cvtSD | cvtSW | cvtWD | cvtWS | floorWD
  | floorWS | movD | movS | roundWD | roundWS | truncWD | truncWS =>
    injection h
    exact eq_of_covered (fixed := 0xFFFF003F) hfixed ((sameOn_rd ‹_›).or (sameOn_sa ‹_›)) rfl
  | cEqD | cEqS | cLeD | cLeS | cLtD | cLtS =>
    injection h
    exact eq_of_covered (fixed := 0xFFE000FF) hfixed ((sameOn_rt ‹_›).or ((sameOn_rd ‹_›).or (sameOn_ccCmp ‹_›))) rfl
  | movfD | movfS | movtD | movtS =>
    injection h
    exact eq_of_covered (fixed := 0xFFE3003F) hfixed ((sameOn_cc ‹_›).or ((sameOn_rd ‹_›).or (sameOn_sa ‹_›))) rfl
  | addi | addiu | andi | ori | slti | sltiu | xori | beq | bne | lb | lbu | ldc1 | lh | lhu | ll | lw | lwc1 | lwl | lwr | sb
  | sc | sdc1 | sh | sw | swc1 | swl | swr =>
    injection h
    exact eq_of_covered (fixed := 0xFC000000) hfixed ((sameOn_rs ‹_›).or ((sameOn_rt ‹_›).or (sameOn_imm ‹_›))) rfl
  | lui =>
    injection h
    exact eq_of_covered (fixed := 0xFFE00000) hfixed ((sameOn_rt ‹_›).or (sameOn_imm ‹_›)) rfl
  | bgez | bgezal | bgtz | blez | bltz | bltzal | teqi | tgei | tgeiu | tlti | tltiu | tnei =>
    injection h
    exact eq_of_covered (fixed := 0xFC1F0000) hfixed ((sameOn_rs ‹_›).or (sameOn_imm ‹_›)) rfl
  | bc1f | bc1t =>
    injection h
    exact eq_of_covered (fixed := 0xFFE30000) hfixed ((sameOn_cc ‹_›).or (sameOn_imm ‹_›)) rfl
  | j | jal =>
    injection h
    exact eq_of_covered (fixed := 0xFC000000) hfixed (sameOn_index ‹_›) rfl
  | teq | tge | tgeu | tlt | tltu | tne =>
    injection h
    exact eq_of_covered (fixed := 0xFC00003F) hfixed ((sameOn_rs ‹_›).or ((sameOn_rt ‹_›).or (sameOn_code10 ‹_›))) rfl
  | brk | syscall =>
    injection h
    exact eq_of_covered (fixed := 0xFC00003F) hfixed (sameOn_code20 ‹_›) rfl

end SameOn

/-- What a row builds from a word it selects has that word. -/
theorem encode_build {r : Row} (hr : r ∈ opcodeRows) {w : Word} (hsel : r.selects w = true) : encode (r.build w) = w := by
  have hrow : rowOf (r.build w) = r := rowOf_build hr w
  refine eq_of_build_eq (i := r.build w) ?fixed ?operands
  case fixed =>
    have hencode := rowOf_selects_encode (r.build w)
    rw [hrow] at hencode ⊢
    exact (beq_iff_eq.mp hencode).trans (beq_iff_eq.mp hsel).symm
  case operands => rw [build_encode, hrow]

/-- The one term that is no instruction (log 9). -/
theorem eq_sll_zero_of_not_wellFormed {i : Instr} (h : i.wellFormed = false) : i = .sll 0 0 0 := by
  cases i with
  | sll rd rt sa => simpa [Instr.wellFormed, and_assoc] using h
  | _ => cases h

/-- Settles O2: the row that decodes a word is that of the instruction; and the ill-formed term has the zero word, which decodes
to `nop`. -/
theorem encodeDecode : Obligations.EncodeDecode := by
  intro w i h
  obtain ⟨r, hr, hsel, rfl⟩ := exists_row_of_decodeWord h
  have hencode : encode (r.build w) = w := encode_build hr hsel
  refine ⟨?_, hencode⟩
  by_contra hwf
  have hsll : r.build w = .sll 0 0 0 := eq_sll_zero_of_not_wellFormed (Bool.eq_false_iff.mpr hwf)
  have hzero : w = 0 := by rw [← hencode, hsll]; rfl
  rw [hsll, hzero, decodeWord_zero] at h
  cases h

/-! ### Words written out -/

theorem decodeTableWord_eq {n : Nat} {i : Instr} (hword : BitVec.ofNat 32 (n % 2 ^ 32) = encode i)
    (hwf : i.wellFormed = true) : decodeTableWord 32 n = some i := by
  simp only [decodeTableWord, hword, decode_bytesOfWord (decodeWord_encode hwf)]

theorem decodeTableWord_eq_none {n : Nat} (h : ∀ r ∈ opcodeRows, r.selects (BitVec.ofNat 32 (n % 2 ^ 32)) = false) :
    decodeTableWord 32 n = none := by
  simp only [decodeTableWord, bytesOfWord, decode, wordOfBytes_bytesOfWord, Machine.decodeWord_of_no_row h]

/-- Settles O3: each word is the encoded word of its instruction; no row selects that of `sync`. -/
theorem decodeSampleWords : Obligations.DecodeSampleWords := by
  refine ⟨?_, ?_, ?_, ?_, ?_, ?_, ?_, ?_, ?_, ?_, decodeTableWord_eq_none (by decide +kernel)⟩
  all_goals exact decodeTableWord_eq rfl rfl

end Sys2Proof

namespace Sys2Proof.Machine

/-! ### Immediates (30_encoding.md R94 to R96) -/

/-- The sum modulo 2^32 of the signed readings (00_scope.md R10). -/
theorem add_eq_ofInt (a b : Word) : a + b = BitVec.ofInt 32 (a.toInt + b.toInt) := by
  rw [BitVec.ofInt_add, BitVec.ofInt_toInt, BitVec.ofInt_toInt]

/-- Settles O15: the second operand is the sign-extended immediate, whose signed value is the immediate's. -/
theorem aluImmediate : Obligations.AluImmediate := by
  intro s rt rs imm
  rw [← sext_eq_ofInt, ← sext_toInt]
  refine ⟨?addiu, ?slti, ?sltiu⟩
  case addiu => exact completes_onlyGpr rfl (add_eq_ofInt _ _)
  case slti => exact completes_onlyGpr rfl (boolWord_ltSigned _ _)
  case sltiu => exact completes_onlyGpr rfl (boolWord_ltUnsigned _ _)

/-- Zero extension puts zeros above bit 15 (R95). -/
theorem zext_getLsbD (imm : Imm16) {k : Nat} (hk : k < 32) :
    (zext imm).getLsbD k = if k < 16 then imm.getLsbD k else false := by
  rw [zext, BitVec.getLsbD_setWidth, decide_eq_true hk, Bool.true_and]
  split
  · rfl
  · exact BitVec.getLsbD_of_ge imm k (by omega)

/-- Settles O16: a bitwise operation on rs and the zero-extended immediate, read bit by bit. -/
theorem logicalImmediate : Obligations.LogicalImmediate := by
  intro s rt rs imm
  refine ⟨?andi, ?ori, ?xori⟩
  case andi =>
    exact ⟨_, _, rfl, onlyGpr_setX_advance s rt _, fun k hk => by rw [BitVec.getLsbD_and, zext_getLsbD imm hk]⟩
  case ori =>
    exact ⟨_, _, rfl, onlyGpr_setX_advance s rt _, fun k hk => by rw [BitVec.getLsbD_or, zext_getLsbD imm hk]⟩
  case xori =>
    exact ⟨_, _, rfl, onlyGpr_setX_advance s rt _, fun k hk => by rw [BitVec.getLsbD_xor, zext_getLsbD imm hk]⟩

/-- Settles O17. -/
theorem loadUpper : Obligations.LoadUpper := fun _ _ _ => completes_onlyGpr rfl rfl

/-! ### Shifts (30_encoding.md R97, 40_integer_alu.md R123) -/

theorem shiftAmount_eq_mod (v : Word) : shiftAmount v = v.toNat % 32 := by
  rw [shiftAmount, BitVec.extractLsb'_toNat, Nat.shiftRight_zero]

theorem shiftLeft_eq_ofNat (v : Word) (n : Nat) : shiftLeft v n = BitVec.ofNat 32 (v.toNat * 2 ^ n) := by
  apply BitVec.eq_of_toNat_eq
  rw [shiftLeft, BitVec.toNat_shiftLeft, BitVec.toNat_ofNat, Nat.shiftLeft_eq]

theorem shiftRightLogical_eq_ofNat (v : Word) (n : Nat) : shiftRightLogical v n = BitVec.ofNat 32 (v.toNat / 2 ^ n) := by
  have hlt : v.toNat / 2 ^ n < 2 ^ 32 := (Nat.div_le_self _ _).trans_lt v.isLt
  apply BitVec.eq_of_toNat_eq
  rw [shiftRightLogical, BitVec.toNat_ushiftRight, Nat.shiftRight_eq_div_pow, BitVec.toNat_ofNat, Nat.mod_eq_of_lt hlt]

theorem shiftRightArith_eq_ofInt (v : Word) (n : Nat) : shiftRightArith v n = BitVec.ofInt 32 (v.toInt / 2 ^ n) := by
  rw [shiftRightArith, BitVec.sshiftRight, Int.shiftRight_eq_div_pow, Nat.cast_pow, Nat.cast_ofNat]

/-- Settles O18: the three laws of the shifts, at the amount of the field or of the register's low 5 bits. -/
theorem shifts : Obligations.Shifts := by
  intro s rd rt rs sa
  rw [← shiftAmount_eq_mod]
  refine ⟨?sll, ?srl, ?sra, ?sllv, ?srlv, ?srav⟩
  case sll => exact completes_onlyGpr rfl (shiftLeft_eq_ofNat _ _)
  case srl => exact completes_onlyGpr rfl (shiftRightLogical_eq_ofNat _ _)
  case sra => exact completes_onlyGpr rfl (shiftRightArith_eq_ofInt _ _)
  case sllv => exact completes_onlyGpr rfl (shiftLeft_eq_ofNat _ _)
  case srlv => exact completes_onlyGpr rfl (shiftRightLogical_eq_ofNat _ _)
  case srav => exact completes_onlyGpr rfl (shiftRightArith_eq_ofInt _ _)

/-! ### Leading ones and zeros (40_integer_alu.md R131, R132) -/

section Leading
variable {bit : Bool} {v : Word} {k p : Nat}

theorem leadingFrom_succ_of_eq (h : v.getLsbD k = bit) : leadingFrom bit v (k + 1) = 1 + leadingFrom bit v k := if_pos h

theorem leadingFrom_succ_of_ne (h : v.getLsbD k ≠ bit) : leadingFrom bit v (k + 1) = 0 := if_neg h

theorem leadingFrom_le (bit : Bool) (v : Word) (k : Nat) : leadingFrom bit v k ≤ k := by
  induction k with
  | zero => exact le_rfl
  | succ k ih =>
    by_cases h : v.getLsbD k = bit
    · rw [leadingFrom_succ_of_eq h]; omega
    · rw [leadingFrom_succ_of_ne h]; omega

/-- The counted bits, the highest of the bits below `k`, equal `bit`. -/
theorem getLsbD_of_counted (hlow : k ≤ p + leadingFrom bit v k) (hhigh : p < k) : v.getLsbD p = bit := by
  induction k with
  | zero => omega
  | succ k ih =>
    by_cases h : v.getLsbD k = bit
    · rw [leadingFrom_succ_of_eq h] at hlow
      obtain rfl | hlt : p = k ∨ p < k := by omega
      · exact h
      · exact ih (by omega) hlt
    · rw [leadingFrom_succ_of_ne h] at hlow
      omega

/-- The next bit below the counted ones is the other one. -/
theorem getLsbD_after_counted (hp : p + leadingFrom bit v k + 1 = k) : v.getLsbD p = !bit := by
  induction k with
  | zero => omega
  | succ k ih =>
    by_cases h : v.getLsbD k = bit
    · rw [leadingFrom_succ_of_eq h] at hp
      exact ih (by omega)
    · rw [leadingFrom_succ_of_ne h] at hp
      obtain rfl : p = k := by omega
      exact Bool.eq_not.mpr h

/-- What `countLeading` counts: the number is unique with these properties. -/
theorem countLeading_spec (bit : Bool) (v : Word) :
    ∃ n, countLeading bit v = BitVec.ofNat 32 n ∧ n ≤ 32 ∧ (∀ k, k < n → v.getLsbD (31 - k) = bit) ∧
      (n < 32 → v.getLsbD (31 - n) = !bit) := by
  have hle := leadingFrom_le bit v 32
  exact ⟨leadingFrom bit v 32, rfl, hle, fun k hk => getLsbD_of_counted (k := 32) (by omega) (by omega),
    fun hn => getLsbD_after_counted (k := 32) (by omega)⟩

end Leading

/-- An instruction that writes the count of the leading bits of rs. -/
theorem countLeading_completes {s : State} {rd rs : Reg} {bit : Bool} {i : Instr}
    (h : exec i s = .next (s.setX rd (countLeading bit (s.x rs))).advance) :
    ∃ t n, exec i s = .next t ∧ OnlyGpr s t rd (BitVec.ofNat 32 n) ∧ n ≤ 32 ∧
      (∀ k, k < n → (s.x rs).getLsbD (31 - k) = bit) ∧ (n < 32 → (s.x rs).getLsbD (31 - n) = !bit) := by
  obtain ⟨n, hcount, hspec⟩ := countLeading_spec bit (s.x rs)
  obtain ⟨t, ht, honly⟩ := completes_onlyGpr h hcount
  exact ⟨t, n, ht, honly, hspec⟩

/-- Settles O19: `clo` counts ones and `clz` zeros; neither reads rt. (The obligation's own name is that of the model's
function.) -/
theorem cloClzCountLeading : Obligations.CountLeading := by
  intro s rd rs rt
  refine ⟨?clo, ?clz⟩
  case clo => exact countLeading_completes (bit := true) rfl
  case clz => exact countLeading_completes (bit := false) rfl

/-! ### Jumps (42_branch_jump.md R195 to R198) -/

theorem onlyPc_jump (s : State) (a : Word) : OnlyPc s (s.jump a) a :=
  ⟨rfl, fun _ => rfl, ⟨rfl, rfl⟩, fun _ => rfl, fun _ => rfl, ⟨rfl, rfl, rfl, rfl⟩, fun _ => rfl, ⟨rfl, rfl, rfl⟩, rfl⟩

/-- A link and a jump change the link register and pc alone. -/
theorem onlyGprAndPc_setX_jump (s : State) (r : Reg) (v a : Word) : OnlyGprAndPc s ((s.setX r v).jump a) r v a :=
  ⟨rfl, s.x_setX r v, ⟨rfl, rfl⟩, fun _ => rfl, fun _ => rfl, ⟨rfl, rfl, rfl, rfl⟩, fun _ => rfl, ⟨rfl, rfl, rfl⟩, rfl⟩

/-- The target of `j` and `jal`: the top four bits of pc + 4, then the index times 4 (30_encoding.md R99). -/
theorem jumpTarget_eq_ofNat (pc : Word) (index : BitVec 26) :
    jumpTarget pc index = BitVec.ofNat 32 ((pc + 4).toNat / 2 ^ 28 * 2 ^ 28 + index.toNat * 4) := by
  have hindex := index.isLt
  have hpc := (pc + 4).isLt
  have htop : ((pc + 4).extractLsb' 28 4).toNat = (pc + 4).toNat / 2 ^ 28 := by
    rw [BitVec.extractLsb'_toNat, Nat.shiftRight_eq_div_pow]
    omega
  apply BitVec.eq_of_toNat_eq
  rw [jumpTarget, BitVec.toNat_append, BitVec.toNat_append, htop, ← Nat.shiftLeft_add_eq_or_of_lt hindex,
    ← Nat.shiftLeft_add_eq_or_of_lt (by decide), BitVec.toNat_ofNat, Nat.shiftLeft_eq, Nat.shiftLeft_eq, BitVec.toNat_ofNat]
  omega

/-- Settles O30: a jump sets pc, a link writes its register too; `jalr` is refused in the one case where the two would meet. -/
theorem jumps : Obligations.Jumps := by
  constructor
  · intro s rd rs hint index
    rw [← jumpTarget_eq_ofNat]
    refine ⟨?j, ?jal, ?jr, ?jalr⟩
    case j => exact ⟨_, rfl, onlyPc_jump s _⟩
    case jal => exact ⟨_, rfl, onlyGprAndPc_setX_jump s 31 _ _⟩
    case jr => exact ⟨_, rfl, onlyPc_jump s _⟩
    case jalr =>
      intro h
      have hlink : ¬(rd = rs ∧ rd ≠ 0) := fun ⟨heq, hne⟩ => h.elim (· heq) hne
      exact ⟨_, exec_jalr_link hlink, onlyGprAndPc_setX_jump s rd _ _⟩
  · exact fun s r hint hr => exec_jalr_same ⟨rfl, hr⟩

end Sys2Proof.Machine
end

section
/-! Integer instructions that may leave their destination alone (40_integer_alu.md): the conditional moves, and the additions and
the subtraction that trap on overflow. Each family has one rule, and each instruction is shown to have that rule's form. -/

namespace Sys2Proof.Machine

/-! ### Conditional moves (40_integer_alu.md R134, R135; 46_fp_compare_convert_move.md R313, R318) -/

/-- An instruction that writes a general register under a condition completes in both cases: with that one write, or with the
default advance alone. -/
theorem completes_onlyGpr_or_onlyPc {s : State} {r : Reg} {v : Word} {i : Instr} {c : Prop} [Decidable c]
    (h : exec i s = .next (if c then s.setX r v else s).advance) :
    ∃ t, exec i s = .next t ∧ if c then OnlyGpr s t r v else OnlyPc s t (s.pc + 4) := by
  refine ⟨_, h, ?_⟩
  by_cases hc : c
  · rw [if_pos hc, if_pos hc]
    exact onlyGpr_setX_advance s r v
  · rw [if_neg hc, if_neg hc]
    exact onlyPc_advance s

/-- Settles O20: the four are conditional writes of rs to rd, on rt or on the named flag. -/
theorem conditionalMoves : Obligations.ConditionalMoves := by
  intro s rd rs rt cc
  refine ⟨?movn, ?movz, ?movf, ?movt⟩
  case movn => exact completes_onlyGpr_or_onlyPc (c := s.x rt ≠ 0) rfl
  case movz => exact completes_onlyGpr_or_onlyPc (c := s.x rt = 0) rfl
  case movf => exact completes_onlyGpr_or_onlyPc (c := s.flag cc = false) rfl
  case movt => exact completes_onlyGpr_or_onlyPc (c := s.flag cc = true) rfl

/-! ### Arithmetic that traps on overflow (40_integer_alu.md R120, R125, R126, R150) -/

theorem outsideSigned_iff (n : Int) : outsideSigned n = true ↔ n < -2 ^ 31 ∨ 2 ^ 31 - 1 < n := by
  rw [outsideSigned, Bool.or_eq_true, decide_eq_true_iff, decide_eq_true_iff]

/-- An instruction that raises ArithmeticOverflow when the exact result `n` does not fit and otherwise writes `v`, which is `n`
modulo 2^32: it completes with `n` exactly when `n` fits. -/
theorem exact_or_overflow {s : State} {r : Reg} {v : Word} {n : Int} {i : Instr}
    (h : exec i s = if outsideSigned n then raise .arithmeticOverflow s else .next (s.setX r v).advance)
    (hv : v = BitVec.ofInt 32 n) :
    (-2 ^ 31 ≤ n ∧ n ≤ 2 ^ 31 - 1 → ∃ t, exec i s = .next t ∧ OnlyGpr s t r (BitVec.ofInt 32 n)) ∧
      (n < -2 ^ 31 ∨ 2 ^ 31 - 1 < n → exec i s = raise .arithmeticOverflow s) := by
  constructor
  · rintro ⟨hlow, hhigh⟩
    have hfits : ¬outsideSigned n = true := by
      rw [outsideSigned_iff]
      exact fun hout => hout.elim hlow.not_gt hhigh.not_gt
    exact completes_onlyGpr (h.trans (if_neg hfits)) hv
  · intro hout
    exact h.trans (if_pos ((outsideSigned_iff n).mpr hout))

/-- Settles O22: the overflow test is of the exact sum or difference, and the word written is that number modulo 2^32. -/
theorem overflowArithmetic : Obligations.OverflowArithmetic := by
  intro s rd rs rt imm
  rw [← sext_toInt]
  refine ⟨?add, ?addi, ?sub⟩
  case add => exact exact_or_overflow rfl (add_eq_ofInt _ _)
  case addi => exact exact_or_overflow rfl (add_eq_ofInt _ _)
  case sub => exact exact_or_overflow rfl (sub_eq_ofInt _ _)

end Sys2Proof.Machine
end

section
/-! Multiplication, division, HI and LO (41_multiply_divide.md): what a write of HI and LO leaves, the exact products, the
accumulator modulo 2^64, and the quotient and remainder. -/

namespace Sys2Proof.Machine

/-! ### Writing HI and LO (R29, R162) -/

/-- New values of HI and LO, a count of draws and the default advance: nothing else changes. -/
theorem onlyHiLo_advance (s : State) (hi lo : Word) (draws : Nat) :
    OnlyHiLo s { s with hi := hi, lo := lo, draws := draws }.advance :=
  ⟨rfl, fun _ => rfl, fun _ => rfl, fun _ => rfl, ⟨rfl, rfl, rfl, rfl⟩, fun _ => rfl, ⟨rfl, rfl, rfl⟩⟩

theorem onlyHiLo_setHiLo_advance (s : State) (p : DWord) : OnlyHiLo s (s.setHiLo p).advance :=
  onlyHiLo_advance s _ _ _

theorem onlyHiLo_drawHiLo_advance (s : State) : OnlyHiLo s s.drawHiLo.advance :=
  onlyHiLo_advance s _ _ _

theorem State.setHiLo_append_hi (s : State) (hi lo : Word) : (s.setHiLo (hi ++ lo)).hi = hi :=
  BitVec.extractLsb'_append_eq_left

theorem State.setHiLo_append_lo (s : State) (hi lo : Word) : (s.setHiLo (hi ++ lo)).lo = lo :=
  BitVec.extractLsb'_append_eq_right

/-- An instruction that answers a write of the accumulator and the advance: HI ++ LO reads, under any reading `f`, as the written
value does. -/
theorem completes_acc {α : Type} {s : State} {i : Instr} {p : DWord} {v : α} (f : DWord → α)
    (h : exec i s = .next (s.setHiLo p).advance) (hv : f p = v) :
    ∃ t, exec i s = .next t ∧ OnlyHiLo s t ∧ t.draws = s.draws ∧ f (t.hi ++ t.lo) = v :=
  ⟨_, h, onlyHiLo_setHiLo_advance s p, rfl, (congrArg f (s.acc_setHiLo p)).trans hv⟩

/-- An instruction that answers a write of the two words and the advance: HI and LO are those words. -/
theorem completes_hi_lo {s : State} {i : Instr} {hi lo : Word} (h : exec i s = .next (s.setHiLo (hi ++ lo)).advance) :
    ∃ t, exec i s = .next t ∧ OnlyHiLo s t ∧ t.draws = s.draws ∧ t.lo = lo ∧ t.hi = hi :=
  ⟨_, h, onlyHiLo_setHiLo_advance s _, rfl, s.setHiLo_append_lo hi lo, s.setHiLo_append_hi hi lo⟩

/-- Settles O27: a copy into a general register, or into one of HI and LO with the other kept. -/
theorem hiLoMoves : Obligations.HiLoMoves := by
  intro s rd rs
  refine ⟨?mfhi, ?mflo, ?mthi, ?mtlo⟩
  case mfhi => exact completes_onlyGpr rfl rfl
  case mflo => exact completes_onlyGpr rfl rfl
  case mthi => exact ⟨_, rfl, onlyHiLo_advance s _ _ _, rfl, rfl, rfl⟩
  case mtlo => exact ⟨_, rfl, onlyHiLo_advance s _ _ _, rfl, rfl, rfl⟩

/-! ### The exact products (R160, R173 to R175) -/

/-- The product of two signed words lies in `-2^62 .. 2^62`, so 64 bits hold it. -/
theorem signedProduct_toInt (a b : Word) : (signedProduct a b).toInt = a.toInt * b.toInt := by
  have hlow : -2 ^ 62 ≤ a.toInt * b.toInt := BitVec.le_toInt_mul_toInt
  have hhigh : a.toInt * b.toInt ≤ 2 ^ 62 := BitVec.toInt_mul_toInt_le
  exact BitVec.toInt_ofInt_eq_self (by decide) (by omega) (by omega)

theorem unsignedProduct_toNat (a b : Word) : (unsignedProduct a b).toNat = a.toNat * b.toNat :=
  (BitVec.toNat_ofNat _ _).trans (Nat.mod_eq_of_lt BitVec.toNat_mul_toNat_lt)

/-- Settles O23: HI and LO are the halves of the exact product, and `mul` writes the low half to rd too. -/
theorem multiply : Obligations.Multiply := by
  intro s rd rs rt
  refine ⟨?mult, ?multu, ?mul⟩
  case mult => exact completes_acc BitVec.toInt rfl (signedProduct_toInt _ _)
  case multu => exact completes_acc BitVec.toNat rfl (unsignedProduct_toNat _ _)
  case mul =>
    have hproduct := (congrArg BitVec.toInt (s.acc_setHiLo _)).trans (signedProduct_toInt (s.x rs) (s.x rt))
    exact ⟨_, rfl, hproduct, State.x_setX _ rd _, rfl, fun _ => rfl, fun _ => rfl, ⟨rfl, rfl, rfl, rfl⟩, fun _ => rfl,
      ⟨rfl, rfl, rfl⟩, rfl⟩

/-! ### The accumulator modulo 2^64 (R162, R165, R166, R169, R170) -/

theorem toNat_ofInt_dword (n : Int) : ((BitVec.ofInt 64 n).toNat : Int) = n % 2 ^ 64 := by
  rw [BitVec.toNat_ofInt]
  exact Int.toNat_of_nonneg (Int.emod_nonneg n (by decide))

/-- Adding the word of an exact integer adds that integer to the unsigned value, modulo 2^64. -/
theorem toNat_add_dword (v : DWord) {p : DWord} {n : Int} (hp : p = BitVec.ofInt 64 n) :
    ((v + p).toNat : Int) = (v.toNat + n) % 2 ^ 64 := by
  have hv : BitVec.ofInt 64 v.toNat = v := by rw [BitVec.ofInt_natCast, BitVec.ofNat_toNat, BitVec.setWidth_eq]
  rw [← toNat_ofInt_dword, BitVec.ofInt_add, hv, hp]

theorem toNat_sub_dword (v : DWord) {p : DWord} {n : Int} (hp : p = BitVec.ofInt 64 n) :
    ((v - p).toNat : Int) = (v.toNat - n) % 2 ^ 64 := by
  have hneg : -p = BitVec.ofInt 64 (-n) := by rw [hp, BitVec.ofInt_neg]
  rw [BitVec.sub_eq_add_neg, toNat_add_dword v hneg, Int.sub_eq_add_neg]

/-- The unsigned product as the word of an exact integer, the form `signedProduct` has by definition. -/
theorem unsignedProduct_eq_ofInt (a b : Word) : unsignedProduct a b = BitVec.ofInt 64 ((a.toNat : Int) * b.toNat) := by
  rw [← Int.natCast_mul, BitVec.ofInt_natCast, unsignedProduct]

/-- Settles O24: each adds to the accumulator, or subtracts from it, the word of the exact product. -/
theorem multiplyAccumulate : Obligations.MultiplyAccumulate := by
  intro s rs rt
  refine ⟨?madd, ?maddu, ?msub, ?msubu⟩
  case madd => exact completes_acc (fun v => (v.toNat : Int)) rfl (toNat_add_dword s.acc rfl)
  case maddu => exact completes_acc (fun v => (v.toNat : Int)) rfl (toNat_add_dword s.acc (unsignedProduct_eq_ofInt _ _))
  case msub => exact completes_acc (fun v => (v.toNat : Int)) rfl (toNat_sub_dword s.acc rfl)
  case msubu => exact completes_acc (fun v => (v.toNat : Int)) rfl (toNat_sub_dword s.acc (unsignedProduct_eq_ofInt _ _))

/-! ### Quotient and remainder (R160, R161, R163, R164) -/

/-- The quotient the model writes is that of the signed division of words; -2^31 / -1 wraps around in both. -/
theorem wordOfInt_tdiv (a b : Word) : wordOfInt (a.toInt.tdiv b.toInt) = a.sdiv b := by
  rw [← BitVec.toInt_inj, BitVec.toInt_sdiv, wordOfInt, BitVec.toInt_ofInt]

theorem wordOfInt_tmod (a b : Word) : wordOfInt (a.toInt.tmod b.toInt) = a.srem b := by
  rw [← BitVec.toInt_srem, wordOfInt, BitVec.ofInt_toInt]

section Divisor
variable {s : State} {rs rt : Reg}

theorem exec_div_of_ne_zero (h : s.x rt ≠ 0) :
    exec (.div rs rt) s = .next (s.setHiLo ((s.x rs).srem (s.x rt) ++ (s.x rs).sdiv (s.x rt))).advance := by
  rw [← wordOfInt_tmod, ← wordOfInt_tdiv]
  exact if_neg h

theorem exec_divu_of_ne_zero (h : s.x rt ≠ 0) :
    exec (.divu rs rt) s = .next (s.setHiLo (s.x rs % s.x rt ++ s.x rs / s.x rt)).advance := if_neg h

theorem exec_div_of_eq_zero (h : s.x rt = 0) : exec (.div rs rt) s = .next s.drawHiLo.advance := if_pos h

theorem exec_divu_of_eq_zero (h : s.x rt = 0) : exec (.divu rs rt) s = .next s.drawHiLo.advance := if_pos h

end Divisor

theorem abs_tmod_lt (a : Int) {b : Int} (hb : b ≠ 0) : |a.tmod b| < |b| := by
  rw [Int.abs_eq_natAbs, Int.abs_eq_natAbs, Int.natAbs_tmod]
  exact_mod_cast Nat.mod_lt _ (Int.natAbs_pos.mpr hb)

/-- The remainder of a truncating division is 0 or has the sign of the dividend. -/
theorem tmod_eq_zero_or_neg_iff (a b : Int) : a.tmod b = 0 ∨ (a.tmod b < 0 ↔ a < 0) := by
  by_cases hdvd : b ∣ a
  · exact .inl (Int.tmod_eq_zero_of_dvd hdvd)
  · have hsign : (a.tmod b).sign = a.sign := (Int.sign_tmod a b).trans (if_neg hdvd)
    exact .inr (by rw [← Int.sign_eq_neg_one_iff_neg, hsign, Int.sign_eq_neg_one_iff_neg])

/-- What R163 says of the quotient and the remainder, where the quotient is a signed word. -/
theorem sdiv_srem_spec {a b : Word} (hb : b ≠ 0) (hfits : ¬(a = 0x80000000 ∧ b = 0xFFFFFFFF)) :
    (a.sdiv b).toInt * b.toInt + (a.srem b).toInt = a.toInt ∧ |(a.srem b).toInt| < |b.toInt| ∧
      (a.srem b = 0 ∨ ((a.srem b).toInt < 0 ↔ a.toInt < 0)) := by
  have hquotient : (a.sdiv b).toInt = a.toInt.tdiv b.toInt := BitVec.toInt_sdiv_of_ne_or_ne a b (not_and_or.mp hfits)
  have hdivisor : b.toInt ≠ 0 := fun h => hb (BitVec.toInt_inj.mp h)
  rw [← BitVec.toInt_inj, hquotient, BitVec.toInt_srem]
  exact ⟨Int.tdiv_mul_add_tmod _ _, abs_tmod_lt _ hdivisor, tmod_eq_zero_or_neg_iff _ _⟩

/-- Settles O25: LO and HI are the quotient and remainder of the words; the one signed quotient that does not fit is computed. -/
theorem divide : Obligations.Divide := by
  constructor
  · intro s rs rt hdivisor
    obtain ⟨t, ht, honly, hdraws, hlo, hhi⟩ := completes_hi_lo (exec_div_of_ne_zero (rs := rs) hdivisor)
    refine ⟨t, ht, honly, hdraws, ?_⟩
    rw [hlo, hhi]
    split
    next hwraps =>
      obtain ⟨hdividend, hminusOne⟩ := hwraps
      rw [hdividend, hminusOne]
      decide
    next hfits => exact sdiv_srem_spec hdivisor hfits
  · intro s rs rt hdivisor
    obtain ⟨t, ht, honly, hdraws, hlo, hhi⟩ := completes_hi_lo (exec_divu_of_ne_zero (rs := rs) hdivisor)
    refine ⟨t, ht, honly, hdraws, ?_⟩
    rw [hlo, hhi]
    exact ⟨BitVec.toNat_udiv, BitVec.toNat_umod⟩

/-- Settles O26: a zero divisor draws HI and LO. -/
theorem divideByZero : Obligations.DivideByZero := by
  intro s rs rt hzero
  refine ⟨?div, ?divu⟩
  case div => exact ⟨_, exec_div_of_eq_zero hzero, onlyHiLo_drawHiLo_advance s⟩
  case divu => exact ⟨_, exec_divu_of_eq_zero hzero, onlyHiLo_drawHiLo_advance s⟩

end Sys2Proof.Machine
end

section
/-! Branches (42_branch_jump.md R180 to R194): the address the model computes is the one the rules name, and each branch is a test
of the old state, with or without a link. -/

namespace Sys2Proof.Machine

/-! ### The address of a branch (R98, R181) -/

/-- The distance in instructions, scaled to bytes by the shift. -/
theorem sext_shiftLeft_two (imm : Imm16) : sext imm <<< 2 = BitVec.ofInt 32 (4 * imm.toInt) := by
  rw [BitVec.shiftLeft_eq_mul_twoPow, BitVec.mul_comm, sext_eq_ofInt, BitVec.ofInt_mul]
  rfl

theorem branchTarget_eq_branchAddress (s : State) (imm : Imm16) : branchTarget s.pc imm = s.branchAddress imm := by
  rw [branchTarget, State.branchAddress, sext_shiftLeft_two, BitVec.ofInt_add, BitVec.ofInt_add, BitVec.ofInt_natCast,
    BitVec.ofNat_toNat, BitVec.setWidth_eq]
  rfl

section Branch
variable {s : State} {imm : Imm16} {i : Instr} {p : Prop} [Decidable p]

/-! ### Branches that do not link (R185 to R188, R190 to R192, R194) -/

/-- An instruction that branches on a test that decides `p`: pc alone changes, to the address named or by the default advance. -/
theorem completes_branch {c : Bool} (h : exec i s = .next (s.branch c imm)) (hc : c = true ↔ p) :
    ∃ t, exec i s = .next t ∧ OnlyPc s t (if p then s.branchAddress imm else s.pc + 4) := by
  refine ⟨_, h, ?_⟩
  rw [State.branch, branchTarget_eq_branchAddress, if_congr hc rfl rfl]
  exact onlyPc_jump s _

/-! ### Branches that link (R182, R189, R193) -/

/-- An instruction that links and branches when `p` holds, which speaks of the state before the link, and otherwise advances. -/
theorem completes_linking_branch
    (h : exec i s = if p then .next ((s.setX 31 (s.pc + 4)).jump (branchTarget s.pc imm)) else .next s.advance) :
    ∃ t, exec i s = .next t ∧
      if p then OnlyGprAndPc s t 31 (s.pc + 4) (s.branchAddress imm) else OnlyPc s t (s.pc + 4) := by
  rw [branchTarget_eq_branchAddress] at h
  by_cases hp : p
  · refine ⟨_, h.trans (if_pos hp), ?_⟩
    rw [if_pos hp]
    exact onlyGprAndPc_setX_jump s 31 _ _
  · refine ⟨_, h.trans (if_neg hp), ?_⟩
    rw [if_neg hp]
    exact onlyPc_advance s

end Branch

/-- Settles O28: each is a branch on its test, which decides the condition the rule names. -/
theorem conditionalBranches : Obligations.ConditionalBranches := by
  intro s rs rt cc imm
  refine ⟨?beq, ?bne, ?bgez, ?bgtz, ?blez, ?bltz, ?bc1f, ?bc1t⟩
  case beq => exact completes_branch rfl decide_eq_true_iff
  case bne => exact completes_branch rfl decide_eq_true_iff
  case bgez => exact completes_branch rfl decide_eq_true_iff
  case bgtz => exact completes_branch rfl decide_eq_true_iff
  case blez => exact completes_branch rfl decide_eq_true_iff
  case bltz => exact completes_branch rfl decide_eq_true_iff
  case bc1f => exact completes_branch rfl (Bool.not_eq_true' _).to_iff
  case bc1t => exact completes_branch rfl Iff.rfl

/-- Settles O29: both read rs before register 31 is written, so rs = 31 is no case of its own. -/
theorem linkingBranches : Obligations.LinkingBranches := by
  intro s rs imm
  refine ⟨?bgezal, ?bltzal⟩
  case bgezal => exact completes_linking_branch rfl
  case bltzal => exact completes_linking_branch rfl

end Sys2Proof.Machine
end

section
/-! Partial loads and stores (43_load_store.md R202, R213, R214, R221, R222): a rule for each word operator on bytes, then the
byte mapping of each instruction. -/

namespace Sys2Proof.Machine

/-! ### Byte `k` of a word operator -/

section WordBytes
variable (v w : Word)

theorem byteOf_getLsbD (k : Nat) {i : Nat} (hi : i < 8) : (byteOf v k).getLsbD i = v.getLsbD (8 * k + i) := by
  rw [byteOf, BitVec.getLsbD_extractLsb', decide_eq_true hi, Bool.true_and]

/-- A word has the bytes 0 to 3. -/
theorem byteOf_of_le {k : Nat} (hk : 4 ≤ k) : byteOf v k = 0#8 :=
  BitVec.eq_of_getLsbD_eq fun i hi => by
    rw [byteOf_getLsbD v k hi, BitVec.getLsbD_of_ge v _ (by omega), BitVec.getLsbD_zero]

theorem byteOf_or (k : Nat) : byteOf (v ||| w) k = byteOf v k ||| byteOf w k := BitVec.extractLsb'_or

theorem byteOf_and (k : Nat) : byteOf (v &&& w) k = byteOf v k &&& byteOf w k := BitVec.extractLsb'_and

theorem byteOf_not {k : Nat} (hk : k < 4) : byteOf (~~~v) k = ~~~byteOf v k :=
  BitVec.eq_of_getLsbD_eq fun i hi => by
    have hbit : 8 * k + i < 32 := by omega
    simp only [byteOf_getLsbD _ k hi, BitVec.getLsbD_not, hi, hbit]

theorem byteOf_shiftLeft (j : Nat) {k : Nat} (hk : k < 4) :
    byteOf (v <<< (8 * j)) k = if k < j then 0#8 else byteOf v (k - j) :=
  BitVec.eq_of_getLsbD_eq fun i hi => by
    have hbit : 8 * k + i < 32 := by omega
    rw [byteOf_getLsbD _ k hi, BitVec.getLsbD_shiftLeft, decide_eq_true hbit, Bool.true_and]
    split
    case isTrue hkj => rw [decide_eq_true (by omega), BitVec.getLsbD_zero, Bool.not_true, Bool.false_and]
    case isFalse hjk =>
      rw [byteOf_getLsbD v _ hi, decide_eq_false (by omega), show 8 * k + i - 8 * j = 8 * (k - j) + i by omega,
        Bool.not_false, Bool.true_and]

theorem byteOf_ushiftRight (j k : Nat) : byteOf (v >>> (8 * j)) k = byteOf v (j + k) :=
  BitVec.eq_of_getLsbD_eq fun i hi => by
    rw [byteOf_getLsbD _ k hi, byteOf_getLsbD v _ hi, BitVec.getLsbD_ushiftRight, ← Nat.add_assoc, ← Nat.mul_add]

/-- The mask of the low-order `j` bytes. -/
theorem byteOf_lowMask (j : Nat) {k : Nat} (hk : k < 4) :
    byteOf (BitVec.ofNat 32 (2 ^ (8 * j) - 1)) k = if k < j then BitVec.allOnes 8 else 0#8 :=
  BitVec.eq_of_getLsbD_eq fun i hi => by
    have hbit : 8 * k + i < 32 := by omega
    rw [byteOf_getLsbD _ k hi, BitVec.getLsbD_ofNat, Nat.testBit_two_pow_sub_one, decide_eq_true hbit, Bool.true_and]
    split
    case isTrue hkj => rw [BitVec.getLsbD_allOnes, decide_eq_true hi, decide_eq_true (by omega)]
    case isFalse hjk => rw [decide_eq_false (by omega), BitVec.getLsbD_zero]

end WordBytes

/-! ### The bytes of a merged register (43_load_store.md R202) -/

section Merge
variable (m r : Word) {b k : Nat}

/-- `lwl`: byte `k` of the register comes from the word `3 - b` bytes lower, and the bytes below stay. -/
theorem byteOf_mergeLeft (hb : b < 4) (hk : k < 4) :
    byteOf (mergeLeft m r b) k = if 3 ≤ k + b then byteOf m (k + b - 3) else byteOf r k := by
  rw [mergeLeft, byteOf_or, byteOf_and, byteOf_shiftLeft m _ hk, byteOf_lowMask _ hk]
  by_cases hkeep : k < 3 - b
  · rw [if_pos hkeep, if_pos hkeep, if_neg (by omega), BitVec.and_allOnes, BitVec.zero_or]
  · rw [if_neg hkeep, if_neg hkeep, if_pos (by omega), show k - (3 - b) = k + b - 3 by omega, BitVec.and_zero,
      BitVec.or_zero]

/-- `lwr`: byte `k` of the register comes from the word `b` bytes higher, and the bytes above stay. -/
theorem byteOf_mergeRight (hb : b < 4) (hk : k < 4) :
    byteOf (mergeRight m r b) k = if k < 4 - b then byteOf m (b + k) else byteOf r k := by
  rw [mergeRight, byteOf_or, byteOf_and, byteOf_not _ hk, byteOf_lowMask _ hk, byteOf_ushiftRight]
  split
  case isTrue => rw [BitVec.not_allOnes, BitVec.and_zero, BitVec.zero_or]
  case isFalse hkeep => rw [byteOf_of_le m (by omega), BitVec.not_zero, BitVec.and_allOnes, BitVec.or_zero]

end Merge

/-- The word's start and the low two bits of an address make the address (43_load_store.md R202). -/
theorem wordBase_add_mod (a : Word) : wordBase a + a.toNat % 4 = a.toNat := Nat.sub_add_cancel (Nat.mod_le _ _)

/-- Settles O33: the touched bytes are bytes of the aligned word, merged into rt by `byteOf_mergeLeft` and `byteOf_mergeRight`. -/
theorem partialLoads : Obligations.PartialLoads := by
  intro s rt rs imm
  have hb : (s.ea imm rs).toNat % 4 < 4 := Nat.mod_lt _ (by decide)
  refine ⟨fun hread => ?lwl, fun hread => ?lwr⟩
  case lwl =>
    obtain ⟨t, hexec, honly⟩ :=
      completes_onlyGpr ((exec_lwl s rt rs imm).trans (loadAt_of_readable (Nat.mod_one _) hread)) rfl
    refine ⟨t, _, hexec, honly, fun k hk => ?_⟩
    rw [byteOf_mergeLeft _ _ hb hk, byteOf_read32 _ _ _ (by omega)]
  case lwr =>
    obtain ⟨t, hexec, honly⟩ :=
      completes_onlyGpr ((exec_lwr s rt rs imm).trans (loadAt_of_readable (Nat.mod_one _) hread)) rfl
    refine ⟨t, _, hexec, honly, fun k hk => ?_⟩
    rw [byteOf_mergeRight _ _ hb hk]
    split
    case isTrue hlow => rw [byteOf_read32 _ _ _ (by omega), ← Nat.add_assoc, wordBase_add_mod]
    case isFalse => rfl

/-- Settles O35: an admitted store of consecutive bytes of rt, from byte `3 - b` on (swl) or from byte 0 on (swr). -/
theorem partialStores : Obligations.PartialStores := by
  intro s rt rs imm hwf
  refine ⟨fun hwrite => ?swl, fun hwrite => ?swr⟩
  case swl =>
    exact completes_onlyMem (exec_swl s rt rs imm) hwf (Nat.succ_pos _) (bytesOf_length _ _ _) (bytesOf_getElem _ _ _)
      (Nat.mod_one _) hwrite
  case swr =>
    have hpos : 0 < 4 - (s.ea imm rs).toNat % 4 := by omega
    exact completes_onlyMem (exec_swr s rt rs imm) hwf hpos (bytesOf_length _ _ _) (bytesOf_zero_getElem _ _)
      (Nat.mod_one _) hwrite

end Sys2Proof.Machine
end

section
/-! Exceptions taken and returned from, and the environment's services (44_trap_system.md R231, R233, R234, R237, 60_exceptions.md
R350, R352): which bits the entry and the return write, what taking an exception records, and what a served call changes. -/

namespace Sys2Proof.Machine

/-! ### The bits of Status and Cause that the entry and the return write -/

section Cop0Bits
variable (v code : Word) {k : Nat}

/-- Status after the entry (60_exceptions.md R350). -/
theorem getLsbD_set_exl (hk : k < 32) : (v ||| 2).getLsbD k = if k = 1 then true else v.getLsbD k := by
  have hmask : ∀ k < 32, (2 : Word).getLsbD k = decide (k = 1) := by decide
  rw [BitVec.getLsbD_or, hmask k hk]
  split
  case isTrue hexl => rw [decide_eq_true hexl, Bool.or_true]
  case isFalse hother => rw [decide_eq_false hother, Bool.or_false]

/-- Status after the return (60_exceptions.md R352). -/
theorem getLsbD_clear_exl (hk : k < 32) : (v &&& 0xFFFFFFFD).getLsbD k = if k = 1 then false else v.getLsbD k := by
  have hmask : ∀ k < 32, (0xFFFFFFFD : Word).getLsbD k = decide (k ≠ 1) := by decide
  rw [BitVec.getLsbD_and, hmask k hk]
  split
  case isTrue hexl => rw [decide_eq_false (not_not.mpr hexl), Bool.and_false]
  case isFalse hother => rw [decide_eq_true hother, Bool.and_true]

/-- The return undoes what the entry did to a Status whose bit 1 was 0. -/
theorem clear_exl_set_exl (h : v.getLsbD 1 = false) : (v ||| 2) &&& 0xFFFFFFFD = v :=
  BitVec.eq_of_getLsbD_eq fun k hk => by
    rw [getLsbD_clear_exl _ hk, getLsbD_set_exl _ hk]
    split
    case isTrue h1 => rw [h1, h]
    case isFalse => rfl

/-- Cause after the entry (60_exceptions.md R350): the five-bit code in bits 6:2. -/
theorem getLsbD_cause_of_code (hcode : code.toNat < 2 ^ 5) (hk : k < 32) :
    ((v &&& (0xFFFFFF83 : Word)) ||| (code <<< 2)).getLsbD k =
      if 2 ≤ k ∧ k ≤ 6 then code.toNat.testBit (k - 2) else v.getLsbD k := by
  have hmask : ∀ k < 32, (0xFFFFFF83 : Word).getLsbD k = decide ¬(2 ≤ k ∧ k ≤ 6) := by decide
  rw [BitVec.getLsbD_or, BitVec.getLsbD_and, BitVec.getLsbD_shiftLeft, hmask k hk, decide_eq_true hk, Bool.true_and,
    ← BitVec.testBit_toNat code]
  split
  case isTrue hfield =>
    rw [decide_eq_false (not_not.mpr hfield), decide_eq_false (not_lt.mpr hfield.1), Bool.and_false, Bool.false_or,
      Bool.not_false, Bool.true_and]
  case isFalse hother =>
    have hshifted : (!decide (k < 2) && code.toNat.testBit (k - 2)) = false := by
      by_cases hlow : k < 2
      · rw [decide_eq_true hlow, Bool.not_true, Bool.false_and]
      · have hle : 2 ^ 5 ≤ 2 ^ (k - 2) := Nat.pow_le_pow_right (by decide) (by omega)
        rw [Nat.testBit_lt_two_pow (hcode.trans_le hle), Bool.and_false]
    rw [hshifted, decide_eq_true hother, Bool.and_true, Bool.or_false]

end Cop0Bits

/-! ### Taking an exception -/

theorem Exc.code_lt (e : Exc) : e.code.toNat < 2 ^ 5 := by
  cases e <;> simp [Exc.code]

section Entry
variable {s t : State} {e : Exc}

/-- What taking an exception records, with a handler and without. -/
theorem raise_entryOf (h : raise e s = .next t) : EntryOf s t e.code.toNat (e.badVAddrAfter s.badVAddr) := by
  obtain ⟨-, -, hepc, hsame⟩ := raise_precise h
  have hcause (k : Nat) (hk : k < 32) := getLsbD_cause_of_code s.cause e.code e.code_lt hk
  have hstatus (k : Nat) (hk : k < 32) := getLsbD_set_exl s.status hk
  obtain ⟨-, ⟨a, -, rfl⟩ | ⟨-, rfl⟩⟩ := raise_next h
  · exact ⟨hepc, hcause, hstatus, rfl, hsame⟩
  · exact ⟨hepc, hcause, hstatus, rfl, hsame⟩

/-- With a handler, control goes to it and the run goes on. -/
theorem raise_enters_handler {a : Word} (hexl : s.exl = false) (ha : s.launch.excHandler = some a) :
    ∃ t, raise e s = .next t ∧ EntryOf s t e.code.toNat (e.badVAddrAfter s.badVAddr) ∧ t.pc = a ∧ t.run = s.run :=
  ⟨_, raise_of_handler hexl ha, raise_entryOf (raise_of_handler hexl ha), rfl, rfl⟩

/-- With none, the run ends at the raising instruction (log 1). -/
theorem raise_ends_run (hexl : s.exl = false) (ha : s.launch.excHandler = none) :
    ∃ t, raise e s = .next t ∧ EntryOf s t e.code.toNat (e.badVAddrAfter s.badVAddr) ∧ t.pc = s.pc ∧
      t.run = .ended (.unhandledException e) :=
  ⟨_, raise_of_none hexl ha, raise_entryOf (raise_of_none hexl ha), rfl, rfl⟩

end Entry

/-! ### `break` and `eret` -/

theorem exec_brk (s : State) (code : BitVec 20) : exec (.brk code) s = raise .breakpoint s := rfl

theorem exec_eret (s : State) : exec .eret s = .next s.returnFromException := rfl

/-- The return writes pc and Status only, so a program that was left alone still is. -/
theorem SameProgram.returnFromException {s t : State} (h : SameProgram s t) : SameProgram s t.returnFromException := h

/-- Settles O44: `break` is `raise .breakpoint`, and the code of that exception is 9. -/
theorem breakRaises : Obligations.BreakRaises := by
  intro s code
  rw [exec_brk]
  exact ⟨rfl, fun _ hexl ha => raise_enters_handler hexl ha, fun hexl ha => raise_ends_run hexl ha⟩

/-- Settles O43: the return clears the one Status bit that the entry set, and goes to the EPC that the entry recorded. -/
theorem exceptionReturn : Obligations.ExceptionReturn := by
  refine ⟨fun s => ?completes, fun s e a hexl ha => ?undoes⟩
  case completes =>
    exact ⟨_, exec_eret s, rfl, fun _ hk => getLsbD_clear_exl s.status hk, rfl, rfl, rfl, fun _ => rfl, ⟨rfl, rfl⟩,
      fun _ => rfl, fun _ => rfl, fun _ => rfl, ⟨rfl, rfl, rfl⟩, rfl⟩
  case undoes =>
    have hraise := raise_of_handler (e := e) hexl ha
    obtain ⟨-, -, hepc, hsame⟩ := raise_precise hraise
    exact ⟨_, _, hraise, rfl, exec_eret _, hepc, clear_exl_set_exl s.status hexl, hsame.returnFromException⟩

/-! ### A call of the environment -/

/-- The answer that State gives to the next call of a service: its script's next, then its constant answer (log 4). -/
def EnvService.given (e : EnvService) : Option EnvAnswer := e.script.head?.or e.always

theorem EnvService.given_of_script {e : EnvService} {a : EnvAnswer} {as : List EnvAnswer} (h : e.script = a :: as) :
    e.given = some a := by
  rw [EnvService.given, h]; rfl

theorem EnvService.given_of_nil {e : EnvService} (h : e.script = []) : e.given = e.always := by
  rw [EnvService.given, h]; rfl

/-- A call of a defined service is served: an answer is applied, the given one where State gives one, and the service moves on in
its script. -/
theorem State.serve_of_find {s : State} {e : EnvService} (h : s.env.find? (fun c => c.number = s.x 2) = some e) :
    ∃ a es d, s.serve = some ({ s with env := es, draws := d }.applyAnswer a) ∧
      (∀ b, e.given = some b → a = b ∧ d = s.draws) ∧
      es.map EnvService.number = s.env.map EnvService.number ∧
      es.find? (fun c => c.number = s.x 2) = some { e with script := e.script.tail } := by
  obtain ⟨⟨answer, es⟩, hcall, hanswer, hnumbers, hfind⟩ := envCall_of_find h
  have hgiven : answer = e.given := by
    rw [EnvService.given]
    cases hscript : e.script <;> simpa [hscript] using hanswer
  subst hgiven
  refine ⟨_, es, _, by rw [State.serve, hcall]; rfl, fun b hb => ?_, hnumbers, hfind⟩
  simp [hb]

section Answer
variable (s : State) (a : EnvAnswer)

/-- An answer that does not end the run lets control go on. -/
theorem State.applyAnswer_goes_on (h : a.endsRun = false) :
    (s.applyAnswer a).pc = s.pc + 4 ∧ (s.applyAnswer a).run = s.run := by
  simp [State.applyAnswer, h]

/-- An answer that ends the run leaves pc at the call (log 4). -/
theorem State.applyAnswer_ends_run (h : a.endsRun = true) :
    (s.applyAnswer a).pc = s.pc ∧ (s.applyAnswer a).run = .ended .exit := by
  simp [State.applyAnswer, h]

/-- The general registers after an answer, in the order of their numbers. -/
theorem State.applyAnswer_x_ordered (k : Reg) :
    (s.applyAnswer a).x k =
      if k = 2 then a.v0.getD (s.x 2) else if k = 4 then a.a0.getD (s.x 4) else if k = 5 then a.a1.getD (s.x 5)
      else s.x k := by
  rw [State.applyAnswer_x]
  by_cases h5 : k = 5
  · subst h5; rfl
  · by_cases h4 : k = 4
    · subst h4; rfl
    · rw [if_neg h5, if_neg h4, if_neg h4, if_neg h5]

/-- The coprocessor 1 registers after an answer, in the order of their numbers. -/
theorem State.applyAnswer_f_ordered (k : Reg) :
    (s.applyAnswer a).f k =
      if k = 0 then a.f0.getD (s.f 0) else if k = 1 then a.f1.getD (s.f 1) else s.f k := by
  rw [State.applyAnswer_f]
  by_cases h1 : k = 1
  · subst h1; rfl
  · rw [if_neg h1, if_neg h1]

end Answer

/-- Settles O45: exit, a served call, and the exception are the three branches of `syscall`. -/
theorem systemCall : Obligations.SystemCall := by
  intro s code
  refine ⟨fun hexit => ?exit, fun e hne hfind => ?served, fun hne hundefined => ?undefined⟩
  case exit =>
    exact ⟨_, exec_syscall_exit hexit, rfl, rfl,
      ⟨fun _ => rfl, ⟨rfl, rfl⟩, fun _ => rfl, fun _ => rfl, fun _ => rfl, rfl, rfl, rfl⟩, ⟨rfl, rfl, rfl, rfl⟩⟩
  case served =>
    obtain ⟨a, es, d, hserve, hgiven, hnumbers, hservice⟩ := State.serve_of_find hfind
    obtain ⟨hhi, hlo, hcc, hbad, hstatus, hcause, hepc, hlaunch, henv, hdraws⟩ :=
      State.applyAnswer_frame { s with env := es, draws := d } a
    have hmem := State.applyAnswer_mem { s with env := es, draws := d } a
    refine ⟨_, a, exec_syscall_of_served hne hserve, fun b bs hscript => ?script, fun b hnil halways => ?always,
      by rw [henv, hnumbers], by rw [henv, hservice], State.applyAnswer_goes_on _ a, State.applyAnswer_ends_run _ a,
      State.applyAnswer_x_ordered _ a, State.applyAnswer_f_ordered _ a, ⟨hhi, hlo⟩, sameFlags_of_cc_eq hcc,
      ⟨hbad, hstatus, hcause, hepc⟩, hlaunch, fun b hb => ?kept, fun hwf b hb => ?written⟩
    case script =>
      rw [hdraws]
      exact hgiven b (EnvService.given_of_script hscript)
    case always =>
      rw [hdraws]
      exact hgiven b ((EnvService.given_of_nil hnil).trans halways)
    case kept => rw [hmem]; exact Launch.storeCells_read_ne _ _ _ b hb
    case written => rw [hmem]; exact Launch.read_storeCells _ _ hwf b hb
  case undefined =>
    have hraise := exec_syscall_of_undefined (code := code) hne (s.serve_eq_none_iff.mpr hundefined)
    rw [hraise]
    exact ⟨rfl, fun _ hexl ha => raise_enters_handler hexl ha, fun hexl ha => raise_ends_run hexl ha⟩

end Sys2Proof.Machine
end

section
/-! Rounding (45_fp_arithmetic.md R260, R261). The magnitudes of a format are the natural numbers below its infinities, and `units` is
their value in least denormals: a strictly increasing function, defined past the infinities too. The encoder's magnitude is nearest
to the exact number on this unbounded grid (`nearestMag_roundedMag`), by the middles between magnitudes; the cut at the infinities,
the distances between patterns with signs and the ties are then read off (`NearestMag.isRounded`). -/

namespace Sys2Proof.Machine

/-! ### The grid of magnitudes (45_fp_arithmetic.md R260) -/

/-- How many places above the least exponent the last bit of magnitude `k` stands. -/
def FpFormat.place (f : FpFormat) (k : Nat) : Nat := k / 2 ^ f.fracBits - 1

/-- The significand of magnitude `k`, the leading bit of a normal number included. -/
def FpFormat.mant (f : FpFormat) (k : Nat) : Nat := k - f.place k * 2 ^ f.fracBits

/-- The value of magnitude `k`, in units of the least denormal. -/
def FpFormat.units (f : FpFormat) (k : Nat) : Nat := f.mant k * 2 ^ f.place k

/-- The magnitude of the infinities: past every finite one. -/
def FpFormat.infMag (f : FpFormat) : Nat := f.maxField * 2 ^ f.fracBits

section Grid
variable (f : FpFormat)

/-- A significand that may be read at place `c`: at most one bit too long, and normal where `c` is not the least place. -/
def FpFormat.FitsPlace (c q : Nat) : Prop := q ≤ 2 ^ (f.fracBits + 1) ∧ (c = 0 ∨ 2 ^ f.fracBits ≤ q)

/-- A magnitude is its place and its significand. -/
theorem FpFormat.place_mul_add_mant (k : Nat) : f.place k * 2 ^ f.fracBits + f.mant k = k := by
  have hle : f.place k * 2 ^ f.fracBits ≤ k :=
    (Nat.mul_le_mul_right _ (Nat.sub_le _ 1)).trans (Nat.div_mul_le_self k _)
  rw [FpFormat.mant]
  omega

/-- The significand of a magnitude is the fraction of a denormal, or has its leading bit. -/
theorem FpFormat.mant_cases (k : Nat) :
    (f.place k = 0 ∧ k / 2 ^ f.fracBits = 0 ∧ f.mant k = k % 2 ^ f.fracBits) ∨
      (k / 2 ^ f.fracBits = f.place k + 1 ∧ f.mant k = 2 ^ f.fracBits + k % 2 ^ f.fracBits) := by
  have hsplit := f.place_mul_add_mant k
  have hdiv := Nat.div_add_mod' k (2 ^ f.fracBits)
  by_cases hfield : k / 2 ^ f.fracBits = 0
  · left
    have hplace : f.place k = 0 := by rw [FpFormat.place, hfield]
    rw [hplace] at hsplit
    rw [hfield] at hdiv
    omega
  · right
    have hplace : k / 2 ^ f.fracBits = f.place k + 1 := (Nat.succ_pred_eq_of_ne_zero hfield).symm
    rw [hplace, add_mul, one_mul] at hdiv
    omega

theorem FpFormat.mant_lt (k : Nat) : f.mant k < 2 ^ (f.fracBits + 1) := by
  have hrem : k % 2 ^ f.fracBits < 2 ^ f.fracBits := Nat.mod_lt k (Nat.two_pow_pos _)
  have hmant : f.mant k ≤ 2 ^ f.fracBits + k % 2 ^ f.fracBits := by
    obtain ⟨-, -, hmant⟩ | ⟨-, hmant⟩ := f.mant_cases k
    · exact hmant.le.trans (Nat.le_add_left _ _)
    · exact hmant.le
  rw [pow_succ]
  omega

theorem FpFormat.fitsPlace_mant (k : Nat) : f.FitsPlace (f.place k) (f.mant k) := by
  refine ⟨(f.mant_lt k).le, ?_⟩
  obtain ⟨hplace, -⟩ | ⟨-, hmant⟩ := f.mant_cases k
  · exact .inl hplace
  · exact .inr (by omega)

variable {f} in
/-- The magnitude with significand `q` at place `c` has the value `q * 2^c`; a significand one bit too long is the next power of
two, as the carry of a rounding leaves it. -/
theorem FpFormat.FitsPlace.units_eq {c q : Nat} (h : f.FitsPlace c q) :
    f.units (c * 2 ^ f.fracBits + q) = q * 2 ^ c := by
  obtain ⟨hq, hc⟩ := h
  have hpos := Nat.two_pow_pos f.fracBits
  have hfield : (c * 2 ^ f.fracBits + q) / 2 ^ f.fracBits = c + q / 2 ^ f.fracBits := by
    rw [add_comm, Nat.add_mul_div_right _ _ hpos, add_comm]
  rw [pow_succ] at hq
  obtain hlt | hle := Nat.lt_or_ge q (2 ^ f.fracBits)
  · obtain rfl : c = 0 := by omega
    have hplace : f.place (0 * 2 ^ f.fracBits + q) = 0 := by rw [FpFormat.place, hfield, Nat.div_eq_of_lt hlt]
    rw [FpFormat.units, FpFormat.mant, hplace]
    simp
  obtain hlt | rfl := hq.lt_or_eq
  · have hplace : f.place (c * 2 ^ f.fracBits + q) = c := by
      rw [FpFormat.place, hfield, Nat.div_eq_of_lt_le (k := 1) (by omega) (by omega)]
      omega
    rw [FpFormat.units, FpFormat.mant, hplace, Nat.add_sub_cancel_left]
  · have hplace : f.place (c * 2 ^ f.fracBits + 2 ^ f.fracBits * 2) = c + 1 := by
      rw [FpFormat.place, hfield, Nat.mul_div_cancel_left _ hpos]
      omega
    have hmant : f.mant (c * 2 ^ f.fracBits + 2 ^ f.fracBits * 2) = 2 ^ f.fracBits := by
      rw [FpFormat.mant, hplace, add_mul]
      omega
    rw [FpFormat.units, hplace, hmant]
    ring

/-- The next magnitude is one unit of the last place greater. -/
theorem FpFormat.units_succ (k : Nat) : f.units (k + 1) = f.units k + 2 ^ f.place k := by
  obtain ⟨-, hc⟩ := f.fitsPlace_mant k
  have hfits : f.FitsPlace (f.place k) (f.mant k + 1) := ⟨f.mant_lt k, by omega⟩
  have hunits := hfits.units_eq
  rw [← add_assoc, f.place_mul_add_mant, add_mul, one_mul] at hunits
  exact hunits

/-- Greater magnitudes are greater numbers. -/
theorem FpFormat.units_strictMono : StrictMono f.units :=
  strictMono_nat_of_lt_succ fun k => by rw [f.units_succ]; exact Nat.lt_add_of_pos_right (Nat.two_pow_pos _)

@[simp] theorem FpFormat.units_zero : f.units 0 = 0 := by simp [FpFormat.units, FpFormat.mant]

variable {f} {c q : Nat}

/-- Every greater magnitude is at least one unit of place `c` away. -/
theorem FpFormat.FitsPlace.add_le_units (h : f.FitsPlace c q) {j : Nat} (hj : c * 2 ^ f.fracBits + q < j) :
    (q + 1) * 2 ^ c ≤ f.units j := by
  obtain ⟨-, hc⟩ := id h
  have hplace : c ≤ f.place (c * 2 ^ f.fracBits + q) := by
    obtain rfl | hq := hc
    · exact Nat.zero_le _
    · have : c + 1 ≤ (c * 2 ^ f.fracBits + q) / 2 ^ f.fracBits := by
        rw [Nat.le_div_iff_mul_le (Nat.two_pow_pos _), add_mul, one_mul]
        omega
      rw [FpFormat.place]
      omega
  calc (q + 1) * 2 ^ c = q * 2 ^ c + 2 ^ c := by rw [add_mul, one_mul]
    _ ≤ f.units (c * 2 ^ f.fracBits + q) + 2 ^ f.place (c * 2 ^ f.fracBits + q) :=
      Nat.add_le_add h.units_eq.ge (Nat.pow_le_pow_right two_pos hplace)
    _ = f.units (c * 2 ^ f.fracBits + q + 1) := (f.units_succ _).symm
    _ ≤ f.units j := f.units_strictMono.monotone hj

/-- Every smaller magnitude is at least one unit of place `c` away, unless the significand is the least normal one. -/
theorem FpFormat.FitsPlace.units_add_le (h : f.FitsPlace c q) (hq : c = 0 ∨ 2 ^ f.fracBits < q) {j : Nat}
    (hj : j < c * 2 ^ f.fracBits + q) : f.units j + 2 ^ c ≤ q * 2 ^ c := by
  obtain ⟨hle, -⟩ := h
  obtain ⟨p, rfl⟩ : ∃ p, q = p + 1 := Nat.exists_eq_succ_of_ne_zero (by
    rintro rfl
    obtain rfl | hq := hq <;> omega)
  have hfits : f.FitsPlace c p := ⟨by omega, by omega⟩
  have hmono := f.units_strictMono.monotone (show j ≤ c * 2 ^ f.fracBits + p by omega)
  rw [hfits.units_eq] at hmono
  rw [add_mul, one_mul]
  omega

end Grid

/-! ### Patterns: a sign and a magnitude (45_fp_arithmetic.md R260) -/

/-- What a sign and a magnitude encode together. -/
def FpFormat.decodeMag (f : FpFormat) (neg : Bool) (k : Nat) : FpVal :=
  if k < f.infMag then .fin neg (f.mant k) (f.minExp + f.place k)
  else if k = f.infMag then .inf neg
  else .nan

/-- The sign a pattern carries. -/
def FpFormat.signOf (f : FpFormat) (bits : Nat) : Bool := bits / 2 ^ (f.expBits + f.fracBits) % 2 == 1

section Patterns
variable (f : FpFormat)

theorem FpFormat.infMag_lt : f.infMag < 2 ^ (f.expBits + f.fracBits) := by
  rw [pow_add]
  exact Nat.mul_lt_mul_of_pos_right (Nat.sub_lt (Nat.two_pow_pos _) one_pos) (Nat.two_pow_pos _)

variable {f} in
theorem FpFormat.decodeMag_of_lt {k : Nat} (hk : k < f.infMag) (neg : Bool) :
    f.decodeMag neg k = .fin neg (f.mant k) (f.minExp + f.place k) := if_pos hk

@[simp] theorem FpFormat.decodeMag_infMag (neg : Bool) : f.decodeMag neg f.infMag = .inf neg := by
  simp [FpFormat.decodeMag]

/-- The magnitude of the infinities is the one with the last field and no fraction. -/
theorem FpFormat.eq_infMag_iff (k : Nat) :
    k = f.infMag ↔ k / 2 ^ f.fracBits = f.maxField ∧ k % 2 ^ f.fracBits = 0 := by
  constructor
  · rintro rfl
    exact ⟨Nat.mul_div_cancel _ (Nat.two_pow_pos _), Nat.mul_mod_left _ _⟩
  · rintro ⟨hfield, hfrac⟩
    rw [FpFormat.infMag, ← hfield, Nat.div_mul_cancel (Nat.dvd_of_mod_eq_zero hfrac)]

/-- The finite magnitudes are those with a smaller field. -/
theorem FpFormat.lt_infMag_iff (k : Nat) : k < f.infMag ↔ k / 2 ^ f.fracBits < f.maxField :=
  (Nat.div_lt_iff_lt_mul (Nat.two_pow_pos _)).symm

/-- A pattern is read as its sign and its magnitude; what stands above the sign is not read. -/
theorem FpFormat.decode_eq_decodeMag (bits : Nat) :
    f.decode bits = f.decodeMag (f.signOf bits) (bits % 2 ^ (f.expBits + f.fracBits)) := by
  have hwidth : 2 ^ (f.expBits + f.fracBits) = 2 ^ f.fracBits * 2 ^ f.expBits := by rw [← pow_add, add_comm]
  have hfield : bits / 2 ^ f.fracBits % 2 ^ f.expBits = bits % 2 ^ (f.expBits + f.fracBits) / 2 ^ f.fracBits := by
    rw [hwidth, Nat.mod_mul_right_div_self]
  have hfrac : bits % 2 ^ f.fracBits = bits % 2 ^ (f.expBits + f.fracBits) % 2 ^ f.fracBits := by
    rw [hwidth, Nat.mod_mul_right_mod]
  have hbound : bits % 2 ^ (f.expBits + f.fracBits) / 2 ^ f.fracBits ≤ f.maxField := by
    rw [← hfield]
    exact Nat.le_sub_one_of_lt (Nat.mod_lt _ (Nat.two_pow_pos _))
  simp only [FpFormat.decode, hfield, hfrac, FpFormat.decodeMag, f.eq_infMag_iff, f.lt_infMag_iff]
  generalize bits % 2 ^ (f.expBits + f.fracBits) = k at *
  obtain hlast | hlt := hbound.eq_or_lt
  · simp [hlast, FpFormat.signOf]
  · rw [if_neg hlt.ne, if_pos hlt]
    obtain ⟨hplace, hfield, hmant⟩ | ⟨hfield, hmant⟩ := f.mant_cases k
    · simp [hfield, hmant, hplace, FpFormat.signOf]
    · rw [if_neg (by omega), hfield, hmant, Nat.add_sub_cancel]
      rfl

/-- The sign bit stands above the magnitude. -/
theorem FpFormat.signBit_eq (neg : Bool) : f.signBit neg = neg.toNat * 2 ^ (f.expBits + f.fracBits) := by
  cases neg <;> simp [FpFormat.signBit]

/-- A sign and a magnitude are read back from the pattern they make. -/
theorem FpFormat.decode_signBit_add (neg : Bool) {k : Nat} (hk : k < 2 ^ (f.expBits + f.fracBits)) :
    f.decode (f.signBit neg + k) = f.decodeMag neg k := by
  have hsign : f.signOf (f.signBit neg + k) = neg := by
    rw [FpFormat.signOf, f.signBit_eq, add_comm, Nat.add_mul_div_right _ _ (Nat.two_pow_pos _), Nat.div_eq_of_lt hk]
    cases neg <;> rfl
  rw [f.decode_eq_decodeMag, hsign, f.signBit_eq, Nat.mul_add_mod_self_right, Nat.mod_eq_of_lt hk]

/-- A pattern of the format's width is its sign and its magnitude. -/
theorem FpFormat.signBit_signOf_add_mod {bits : Nat} (h : bits < 2 ^ (f.expBits + f.fracBits + 1)) :
    f.signBit (f.signOf bits) + bits % 2 ^ (f.expBits + f.fracBits) = bits := by
  have hsign : (f.signOf bits).toNat = bits / 2 ^ (f.expBits + f.fracBits) := by
    have : bits / 2 ^ (f.expBits + f.fracBits) < 2 := by
      rwa [Nat.div_lt_iff_lt_mul (Nat.two_pow_pos _), mul_comm, ← pow_succ]
    rw [FpFormat.signOf]
    generalize bits / 2 ^ (f.expBits + f.fracBits) = d at *
    interval_cases d <;> rfl
  rw [f.signBit_eq, hsign, Nat.div_add_mod']

/-- A pattern is read modulo its width. -/
theorem FpFormat.decode_mod (bits : Nat) : f.decode (bits % 2 ^ (f.expBits + f.fracBits + 1)) = f.decode bits := by
  rw [f.decode_eq_decodeMag, f.decode_eq_decodeMag bits, FpFormat.signOf, pow_succ, Nat.mod_mul_right_div_self,
    Nat.mod_mod, Nat.mod_mul_right_mod]
  rfl

variable {f} in
/-- The finite patterns are the finite magnitudes with a sign. -/
theorem FpFormat.eq_mant_of_decode_eq_fin {bits m : Nat} {neg : Bool} {e : Int} (h : f.decode bits = .fin neg m e) :
    ∃ k, k = bits % 2 ^ (f.expBits + f.fracBits) ∧ k < f.infMag ∧ f.signOf bits = neg ∧ m = f.mant k ∧
      e = f.minExp + f.place k := by
  refine ⟨_, rfl, ?_⟩
  rw [f.decode_eq_decodeMag, FpFormat.decodeMag] at h
  split_ifs at h with hlt
  cases h
  exact ⟨hlt, rfl, rfl, rfl⟩

/-- The number of a significand at its place is the magnitude's value in units. -/
theorem FpFormat.mant_mul_two_zpow {K : Type*} [Field K] [CharZero K] (k : Nat) :
    (f.mant k : K) * 2 ^ (f.minExp + f.place k) = f.units k * 2 ^ f.minExp := by
  rw [FpFormat.units, zpow_add₀ two_ne_zero, zpow_natCast]
  push_cast
  ring

/-- The exact value of a finite magnitude with a sign. -/
theorem FpFormat.finiteValue_mant (neg : Bool) (k : Nat) :
    finiteValue neg (f.mant k) (f.minExp + f.place k) = (if neg then -1 else 1) * (f.units k * 2 ^ f.minExp) := by
  rw [finiteValue, mul_assoc, f.mant_mul_two_zpow]

end Patterns

/-! ### Rounding an exact number (45_fp_arithmetic.md R261)

The exact number may be rational (a sum, a product, a quotient) or real (a root), so the rules are stated over any ordered field. -/

section Rounding
variable {K : Type*} [Field K] [LinearOrder K] [IsStrictOrderedRing K]

/-- The exact magnitude that an integer `m` and a sticky bit stand for. -/
def ExactMant (m : Nat) (sticky : Bool) (y : K) : Prop := if sticky then (m : K) < y ∧ y < m + 1 else y = m

/-- `q` is an integer nearest to `z`, the even one of two. -/
def NearestEven (z : K) (q : Nat) : Prop :=
  (2 * z ≤ 2 * q + 1 ∧ (2 * z = 2 * q + 1 → q % 2 = 0)) ∧ (2 * q ≤ 2 * z + 1 ∧ (2 * q = 2 * z + 1 → q % 2 = 0))

/-- `k` is a magnitude nearest to the number of `x` units: `x` does not lie past the middle between `k` and any other magnitude,
and lies in the middle only when `k` is even. -/
def FpFormat.NearestMag (f : FpFormat) (x : K) (k : Nat) : Prop :=
  ∀ j, (k < j → 2 * x ≤ f.units k + f.units j ∧ (2 * x = f.units k + f.units j → k % 2 = 0)) ∧
    (j < k → f.units j + f.units k ≤ 2 * x ∧ (f.units j + f.units k = 2 * x → k % 2 = 0))

omit [IsStrictOrderedRing K] in
theorem ExactMant.le {m : Nat} {sticky : Bool} {y : K} (h : ExactMant m sticky y) : (m : K) ≤ y := by
  cases sticky
  · exact (show y = m from h).ge
  · exact h.1.le

theorem ExactMant.lt_succ {m : Nat} {sticky : Bool} {y : K} (h : ExactMant m sticky y) : y < m + 1 := by
  cases sticky
  · rw [show y = m from h]
    exact lt_add_one _
  · exact h.2

/-- With the sticky bit set `roundNearestEven` is strictly nearest to everything between `m` and `m + 1`. -/
theorem roundNearestEven_sticky_bounds {m k n : Nat} (hn : roundNearestEven m (k + 1) true = n) :
    n * 2 ^ (k + 1) ≤ m + 2 ^ k ∧ m + 1 ≤ n * 2 ^ (k + 1) + 2 ^ k := by
  have hdiv : m / 2 ^ (k + 1) * 2 ^ (k + 1) + m % 2 ^ (k + 1) = m := Nat.div_add_mod' m _
  have hrem : m % 2 ^ (k + 1) < 2 ^ (k + 1) := Nat.mod_lt m (Nat.two_pow_pos _)
  have hhalf : 2 ^ (k + 1) = 2 * 2 ^ k := Nat.pow_succ'
  simp only [roundNearestEven, Nat.add_sub_cancel, Bool.true_or, Bool.and_true, Bool.or_eq_true, decide_eq_true_eq,
    beq_iff_eq] at hn
  generalize m / 2 ^ (k + 1) = q at *
  generalize m % 2 ^ (k + 1) = r at *
  split at hn
  case isTrue hup =>
    obtain rfl := hn
    rw [add_mul, one_mul]
    omega
  case isFalse hdown =>
    obtain rfl := hn
    omega

/-- `roundNearestEven` rounds the exact magnitude to nearest, ties to even. -/
theorem nearestEven_roundNearestEven {m : Nat} {sticky : Bool} {y : K} (hy : ExactMant m sticky y) (j : Nat) :
    NearestEven (y / 2 ^ (j + 1)) (roundNearestEven m (j + 1) sticky) := by
  have hpos : (0 : K) < 2 ^ j := by positivity
  have htwice : 2 * (y / 2 ^ (j + 1)) = y / 2 ^ j := by rw [pow_succ]; field_simp
  rw [NearestEven, htwice, div_le_iff₀ hpos, div_eq_iff hpos.ne', ← sub_le_iff_le_add, le_div_iff₀ hpos,
    ← sub_eq_iff_eq_add, eq_div_iff hpos.ne']
  generalize hn : roundNearestEven m (j + 1) sticky = n
  cases sticky
  case false =>
    obtain rfl : y = m := hy
    obtain ⟨hle, hge, htie⟩ := roundNearestEven_bounds hn
    have hle' : (n : K) * 2 ^ (j + 1) ≤ m + 2 ^ j := by exact_mod_cast hle
    have hge' : (m : K) ≤ n * 2 ^ (j + 1) + 2 ^ j := by exact_mod_cast hge
    rw [pow_succ] at hle' hge'
    refine ⟨⟨by linarith, fun h => htie (.inr ?_)⟩, by linarith, fun h => htie (.inl ?_)⟩
    · have : (m : K) = n * 2 ^ (j + 1) + 2 ^ j := by rw [pow_succ]; linarith
      exact_mod_cast this
    · have : (n : K) * 2 ^ (j + 1) = m + 2 ^ j := by rw [pow_succ]; linarith
      exact_mod_cast this
  case true =>
    obtain ⟨hlt, hgt⟩ : (m : K) < y ∧ y < m + 1 := hy
    obtain ⟨hle, hge⟩ := roundNearestEven_sticky_bounds hn
    have hle' : (n : K) * 2 ^ (j + 1) ≤ m + 2 ^ j := by exact_mod_cast hle
    have hge' : (m : K) + 1 ≤ n * 2 ^ (j + 1) + 2 ^ j := by exact_mod_cast hge
    rw [pow_succ] at hle' hge'
    exact ⟨⟨by linarith, fun h => by linarith⟩, by linarith, fun h => by linarith⟩

/-- A number of its own is nearest to itself. -/
theorem nearestEven_natCast (q : Nat) : NearestEven (q : K) q :=
  ⟨⟨by linarith, fun h => by linarith⟩, by linarith, fun h => by linarith⟩

/-- Rounding does not pass an integer bound from below. -/
theorem NearestEven.le_of_lt {z : K} {q n : Nat} (h : NearestEven z q) (hz : z < n) : q ≤ n := by
  obtain ⟨-, hle, -⟩ := h
  have : (q : K) < n + 1 := by linarith
  exact Nat.lt_succ_iff.mp (by exact_mod_cast this)

/-- Rounding does not pass an integer bound from above. -/
theorem NearestEven.le_of_le {z : K} {q n : Nat} (h : NearestEven z q) (hz : (n : K) ≤ z) : n ≤ q := by
  obtain ⟨⟨hle, -⟩, -⟩ := h
  have : (n : K) < q + 1 := by linarith
  exact Nat.lt_succ_iff.mp (by exact_mod_cast this)

variable {f : FpFormat}

/-- Rounding the significand at its place gives the nearest magnitude. The one magnitude below which the numbers lie closer is
the least normal one of a place, and there the exact number is not smaller. -/
theorem NearestEven.nearestMag (hfrac : f.fracBits ≠ 0) {c q : Nat} {z : K} (h : NearestEven z q)
    (hfits : f.FitsPlace c q) (hnormal : c ≠ 0 → 2 ^ f.fracBits ≤ z) :
    f.NearestMag (z * 2 ^ c) (c * 2 ^ f.fracBits + q) := by
  obtain ⟨⟨hup, huptie⟩, hdown, hdowntie⟩ := h
  have hpos : (0 : K) < 2 ^ c := by positivity
  have hparity : q % 2 = 0 → (c * 2 ^ f.fracBits + q) % 2 = 0 := by
    obtain ⟨w, hw⟩ := Nat.exists_eq_succ_of_ne_zero hfrac
    rw [hw, Nat.succ_eq_add_one, pow_succ, ← mul_assoc]
    omega
  intro j
  constructor
  · intro hj
    have hunits : ((q : K) + 1) * 2 ^ c ≤ f.units j := by exact_mod_cast hfits.add_le_units hj
    have hscaled : 2 * z * 2 ^ c ≤ (2 * q + 1) * 2 ^ c := mul_le_mul_of_nonneg_right hup hpos.le
    rw [hfits.units_eq]
    push_cast
    refine ⟨by linarith, fun heq => hparity (huptie ?_)⟩
    exact mul_right_cancel₀ hpos.ne' (by linarith)
  · intro hj
    by_cases hleast : c = 0 ∨ 2 ^ f.fracBits < q
    · have hunits : (f.units j : K) + 2 ^ c ≤ q * 2 ^ c := by exact_mod_cast hfits.units_add_le hleast hj
      have hscaled : 2 * q * 2 ^ c ≤ (2 * z + 1) * 2 ^ c := mul_le_mul_of_nonneg_right hdown hpos.le
      rw [hfits.units_eq]
      push_cast
      refine ⟨by linarith, fun heq => hparity (hdowntie ?_)⟩
      exact mul_right_cancel₀ hpos.ne' (by linarith)
    · have hunits : (f.units j : K) < q * 2 ^ c := by
        have := f.units_strictMono hj
        rw [hfits.units_eq] at this
        exact_mod_cast this
      have hz : (q : K) * 2 ^ c ≤ z * 2 ^ c := by
        obtain ⟨-, hq⟩ := hfits
        obtain rfl : q = 2 ^ f.fracBits := by omega
        push_cast
        exact mul_le_mul_of_nonneg_right (hnormal (by omega)) hpos.le
      rw [hfits.units_eq]
      push_cast
      exact ⟨by linarith, fun heq => by linarith⟩

end Rounding

/-! ### The encoder (45_fp_arithmetic.md R260, R261) -/

section Encoder
variable (f : FpFormat) (m : Nat) (e : Int) (sticky : Bool)

/-- The exponent of the last place that the format has for the number `m * 2^e`. -/
def FpFormat.ulpExp : Int := max (e + (Nat.log2 m + 1 : Nat) - (f.fracBits + 1 : Nat)) f.minExp

/-- The significand rounded at that place. -/
def FpFormat.roundedMant : Nat :=
  if f.ulpExp m e ≤ e then m * 2 ^ (e - f.ulpExp m e).toNat
  else roundNearestEven m (f.ulpExp m e - e).toNat sticky

/-- That place, counted from the least. -/
def FpFormat.roundedPlace : Nat := (f.ulpExp m e - f.minExp).toNat

/-- The magnitude before the cut at the infinities. -/
def FpFormat.roundedMag : Nat := f.roundedPlace m e * 2 ^ f.fracBits + f.roundedMant m e sticky

theorem FpFormat.encode_eq (neg : Bool) :
    f.encode neg m e sticky = f.signBit neg + min (f.roundedMag m e sticky) f.infMag := rfl

theorem FpFormat.ulpExp_eq : f.ulpExp m e = f.minExp + f.roundedPlace m e := by
  have : f.minExp ≤ f.ulpExp m e := le_max_right _ _
  rw [FpFormat.roundedPlace]
  omega

variable {f m e sticky} {K : Type*} [Field K] [LinearOrder K] [IsStrictOrderedRing K] {y : K}

/-- The exact number in units of its last place has at most the format's precision. -/
theorem FpFormat.exact_lt (hy : ExactMant m sticky y) :
    y * 2 ^ (e - f.ulpExp m e) < 2 ^ (f.fracBits + 1) := by
  have hlog : y < 2 ^ (Nat.log2 m + 1) := by
    have hm' : (m : K) + 1 ≤ 2 ^ (Nat.log2 m + 1) := by exact_mod_cast Nat.lt_log2_self (n := m)
    exact hy.lt_succ.trans_le hm'
  have hulp : e + (Nat.log2 m + 1 : Nat) - (f.fracBits + 1 : Nat) ≤ f.ulpExp m e := le_max_left _ _
  calc y * 2 ^ (e - f.ulpExp m e)
      < 2 ^ (Nat.log2 m + 1) * 2 ^ (e - f.ulpExp m e) := mul_lt_mul_of_pos_right hlog (by positivity)
    _ = (2 : K) ^ ((Nat.log2 m + 1 : Nat) + (e - f.ulpExp m e)) := by rw [zpow_add₀ two_ne_zero, zpow_natCast]
    _ ≤ (2 : K) ^ ((f.fracBits + 1 : Nat) : Int) := zpow_le_zpow_right₀ one_le_two (by omega)
    _ = 2 ^ (f.fracBits + 1) := zpow_natCast _ _

/-- Above the least place the exact number has the leading bit of a normal one. -/
theorem FpFormat.le_exact (hm : m ≠ 0) (hy : ExactMant m sticky y) (hplace : f.roundedPlace m e ≠ 0) :
    2 ^ f.fracBits ≤ y * 2 ^ (e - f.ulpExp m e) := by
  have hlog : 2 ^ Nat.log2 m ≤ y := by
    have hm' : (2 : K) ^ Nat.log2 m ≤ m := by exact_mod_cast Nat.log2_self_le hm
    exact hm'.trans hy.le
  have hulp : f.ulpExp m e = e + (Nat.log2 m + 1 : Nat) - (f.fracBits + 1 : Nat) := by
    have := f.ulpExp_eq m e
    obtain h | h := max_choice (e + (Nat.log2 m + 1 : Nat) - (f.fracBits + 1 : Nat)) f.minExp
    · exact h
    · have : f.ulpExp m e = f.minExp := h
      omega
  calc (2 : K) ^ f.fracBits = 2 ^ (f.fracBits : Int) := (zpow_natCast _ _).symm
    _ = 2 ^ ((Nat.log2 m : Int) + (e - f.ulpExp m e)) := by congr 1; omega
    _ = 2 ^ Nat.log2 m * 2 ^ (e - f.ulpExp m e) := by rw [zpow_add₀ two_ne_zero, zpow_natCast]
    _ ≤ y * 2 ^ (e - f.ulpExp m e) := mul_le_mul_of_nonneg_right hlog (by positivity)

/-- The significand is rounded once, to nearest even. A number with its sticky bit set is long enough to be rounded. -/
theorem FpFormat.nearestEven_roundedMant (hy : ExactMant m sticky y)
    (hlong : sticky = true → 2 ^ (f.fracBits + 1) ≤ m) :
    NearestEven (y * 2 ^ (e - f.ulpExp m e)) (f.roundedMant m e sticky) := by
  rw [FpFormat.roundedMant]
  split
  case isTrue hexact =>
    have hsticky : sticky = false := by
      by_contra hset
      have hm := hlong (by simpa using hset)
      have hlog : f.fracBits + 1 ≤ Nat.log2 m := by
        have hpos := Nat.two_pow_pos (f.fracBits + 1)
        exact (Nat.le_log2 (by omega)).mpr hm
      have : e + (Nat.log2 m + 1 : Nat) - (f.fracBits + 1 : Nat) ≤ f.ulpExp m e := le_max_left _ _
      omega
    subst hsticky
    obtain rfl : y = m := hy
    have hcast : (m : K) * 2 ^ (e - f.ulpExp m e) = (m * 2 ^ (e - f.ulpExp m e).toNat : Nat) := by
      rw [← Int.toNat_of_nonneg (show 0 ≤ e - f.ulpExp m e by omega), zpow_natCast, Int.toNat_natCast]
      push_cast
      rfl
    rw [hcast]
    exact nearestEven_natCast _
  case isFalse hround =>
    obtain ⟨j, hj⟩ : ∃ j : Nat, f.ulpExp m e - e = (j + 1 : Nat) := ⟨(f.ulpExp m e - e - 1).toNat, by omega⟩
    have hquot : y * 2 ^ (e - f.ulpExp m e) = y / 2 ^ (j + 1) := by
      rw [show e - f.ulpExp m e = -((j + 1 : Nat) : Int) by omega, zpow_neg, zpow_natCast, div_eq_mul_inv]
    rw [hquot, hj, Int.toNat_natCast]
    exact nearestEven_roundNearestEven hy j

theorem FpFormat.fitsPlace_roundedMant (hm : m ≠ 0) (hy : ExactMant m sticky y)
    (hlong : sticky = true → 2 ^ (f.fracBits + 1) ≤ m) :
    f.FitsPlace (f.roundedPlace m e) (f.roundedMant m e sticky) := by
  have hround := f.nearestEven_roundedMant (e := e) hy hlong
  constructor
  · exact hround.le_of_lt (by exact_mod_cast f.exact_lt hy)
  · by_cases hplace : f.roundedPlace m e = 0
    · exact .inl hplace
    · exact .inr (hround.le_of_le (by exact_mod_cast f.le_exact hm hy hplace))

/-- The encoder's magnitude is nearest to the exact number `y * 2^e`, in units of the least denormal. -/
theorem FpFormat.nearestMag_roundedMag (hfrac : f.fracBits ≠ 0) (hm : m ≠ 0) (hy : ExactMant m sticky y)
    (hlong : sticky = true → 2 ^ (f.fracBits + 1) ≤ m) :
    f.NearestMag (y * 2 ^ (e - f.minExp)) (f.roundedMag m e sticky) := by
  have hscale : y * 2 ^ (e - f.minExp) = y * 2 ^ (e - f.ulpExp m e) * 2 ^ f.roundedPlace m e := by
    rw [mul_assoc, ← zpow_natCast, ← zpow_add₀ two_ne_zero, f.ulpExp_eq]
    congr 2
    omega
  rw [hscale]
  exact (f.nearestEven_roundedMant hy hlong).nearestMag hfrac (f.fitsPlace_roundedMant hm hy hlong) (f.le_exact hm hy)

end Encoder

/-! ### The nearest pattern (R260, R261) -/

section Nearest
variable {K : Type*} [Field K] [LinearOrder K] [IsStrictOrderedRing K] {f : FpFormat} {x : K} {k : Nat}

/-- The nearest magnitude, by distances. -/
theorem FpFormat.NearestMag.abs_sub_le (h : f.NearestMag x k) (j : Nat) :
    |x - f.units k| ≤ |x - f.units j| ∧
      (|x - f.units k| = |x - f.units j| → (f.units k : K) ≠ f.units j → k % 2 = 0) := by
  obtain ⟨hup, hdown⟩ := h j
  obtain hlt | rfl | hgt := lt_trichotomy k j
  · obtain ⟨hle, htie⟩ := hup hlt
    have hunits : (f.units k : K) < f.units j := by exact_mod_cast f.units_strictMono hlt
    have habs := neg_le_abs (x - f.units j)
    refine ⟨abs_le.mpr ⟨by linarith, by linarith⟩, fun heq hne => htie ?_⟩
    obtain heq | heq := abs_eq_abs.mp heq
    · exact absurd (sub_right_injective heq) hne
    · linarith
  · exact ⟨le_rfl, fun _ hne => absurd rfl hne⟩
  · obtain ⟨hle, htie⟩ := hdown hgt
    have hunits : (f.units j : K) < f.units k := by exact_mod_cast f.units_strictMono hgt
    have habs := le_abs_self (x - f.units j)
    refine ⟨abs_le.mpr ⟨by linarith, by linarith⟩, fun heq hne => htie ?_⟩
    obtain heq | heq := abs_eq_abs.mp heq
    · exact absurd (sub_right_injective heq) hne
    · linarith

/-- Numbers of the other sign are no nearer than 0 is. -/
theorem FpFormat.NearestMag.abs_add_le (h : f.NearestMag x k) (hx : 0 ≤ x) (j : Nat) :
    |x - f.units k| ≤ |x + f.units j| ∧
      (|x - f.units k| = |x + f.units j| → (f.units k : K) ≠ -f.units j → k % 2 = 0) := by
  obtain ⟨hle, htie⟩ := h.abs_sub_le 0
  have hj : (0 : K) ≤ f.units j := Nat.cast_nonneg _
  rw [f.units_zero, Nat.cast_zero, sub_zero, abs_of_nonneg hx] at hle htie
  rw [abs_of_nonneg (add_nonneg hx hj)]
  refine ⟨by linarith, fun heq hne => ?_⟩
  have hzero : (f.units j : K) = 0 := by linarith
  rw [hzero, neg_zero] at hne
  exact htie (by linarith) hne

/-- A number that a magnitude has exactly is rounded to that magnitude. -/
theorem FpFormat.NearestMag.eq_of_eq_units {j : Nat} (h : f.NearestMag x k) (hx : x = f.units j) : k = j := by
  obtain ⟨hle, -⟩ := h.abs_sub_le j
  rw [hx, sub_self, abs_zero, abs_nonpos_iff, sub_eq_zero] at hle
  exact (f.units_strictMono.injective (by exact_mod_cast hle)).symm

/-- The magnitude of the infinities is even, so the one before it is odd. -/
theorem FpFormat.infMag_even (hfrac : f.fracBits ≠ 0) : f.infMag % 2 = 0 := by
  obtain ⟨w, hw⟩ := Nat.exists_eq_succ_of_ne_zero hfrac
  rw [FpFormat.infMag, hw, Nat.succ_eq_add_one, pow_succ, ← mul_assoc, Nat.mul_mod_left]

theorem FpFormat.infMag_pos (hexp : f.expBits ≠ 0) : 0 < f.infMag :=
  Nat.mul_pos (Nat.sub_pos_of_lt (Nat.one_lt_two_pow hexp)) (Nat.two_pow_pos _)

/-- Rounding overflows exactly from the middle between the largest finite magnitude and the next. -/
theorem FpFormat.NearestMag.infMag_le_iff (hfrac : f.fracBits ≠ 0) (hexp : f.expBits ≠ 0) (h : f.NearestMag x k) :
    f.infMag ≤ k ↔ (f.units (f.infMag - 1) : K) + f.units f.infMag ≤ 2 * x := by
  have heven := f.infMag_even hfrac
  have hpos := f.infMag_pos hexp
  have hmono {i j : Nat} (hij : i ≤ j) : (f.units i : K) ≤ f.units j := by
    exact_mod_cast f.units_strictMono.monotone hij
  constructor
  · intro hle
    obtain ⟨hdown, -⟩ := (h (f.infMag - 1)).2 (by omega)
    linarith [hmono hle]
  · intro hbound
    by_contra hlt
    obtain ⟨hup, htie⟩ := (h f.infMag).1 (by omega)
    have hk : k ≤ f.infMag - 1 := by omega
    have hodd := htie (by linarith [hmono hk])
    obtain hk | rfl := hk.lt_or_eq
    · have : (f.units k : K) < f.units (f.infMag - 1) := by exact_mod_cast f.units_strictMono hk
      linarith
    · omega

end Nearest

/-- Half a unit past the largest finite number: the middle between it and the next of the grid. -/
def FpFormat.overflowBound (f : FpFormat) : ℚ :=
  ((f.units (f.infMag - 1) : ℚ) + f.units f.infMag) / 2 * 2 ^ f.minExp

/-- The magnitude of the infinities, read as a number, is the next power of two. -/
theorem FpFormat.infMag_eq {f : FpFormat} {c : Nat} (h : f.maxField = c + 2) :
    f.infMag = c * 2 ^ f.fracBits + 2 ^ (f.fracBits + 1) := by
  rw [FpFormat.infMag, h, pow_succ']
  ring

theorem FpFormat.units_infMag {f : FpFormat} {c : Nat} (h : f.maxField = c + 2) :
    f.units f.infMag = 2 ^ (f.fracBits + 1) * 2 ^ c := by
  rw [f.infMag_eq h]
  exact FpFormat.FitsPlace.units_eq ⟨le_rfl, .inr (Nat.pow_le_pow_right two_pos (Nat.le_succ _))⟩

theorem FpFormat.overflowBound_eq {f : FpFormat} {c : Nat} (h : f.maxField = c + 2) :
    f.overflowBound = (2 ^ (f.fracBits + 2) - 1) * 2 ^ (f.minExp + c - 1) := by
  have hlast : f.units (f.infMag - 1) = (2 ^ (f.fracBits + 1) - 1) * 2 ^ c := by
    have hpos := Nat.two_pow_pos f.fracBits
    have hdouble : 2 ^ (f.fracBits + 1) = 2 * 2 ^ f.fracBits := pow_succ' _ _
    rw [f.infMag_eq h, Nat.add_sub_assoc (Nat.two_pow_pos _)]
    exact FpFormat.FitsPlace.units_eq ⟨Nat.sub_le _ _, .inr (by omega)⟩
  rw [FpFormat.overflowBound, hlast, f.units_infMag h, zpow_sub_one₀ two_ne_zero, zpow_add₀ two_ne_zero, zpow_natCast]
  push_cast [Nat.one_le_two_pow]
  ring

theorem FpFormat.two_le_overflowBound {f : FpFormat} {c : Nat} (h : f.maxField = c + 2) (hexp : 0 ≤ f.minExp + c - 1) :
    2 ≤ f.overflowBound := by
  have hmant : (2 : ℚ) ^ 2 ≤ 2 ^ (f.fracBits + 2) := pow_le_pow_right₀ one_le_two (Nat.le_add_left 2 _)
  rw [f.overflowBound_eq h]
  calc (2 : ℚ) ≤ 2 ^ (f.fracBits + 2) - 1 := by linarith
    _ ≤ (2 ^ (f.fracBits + 2) - 1) * 2 ^ (f.minExp + c - 1) :=
      le_mul_of_one_le_right (by linarith) (one_le_zpow₀ one_le_two hexp)

theorem single_overflowBound : single.overflowBound = 2 ^ (128 : Nat) - 2 ^ (103 : Nat) := by
  rw [FpFormat.overflowBound_eq (show single.maxField = 253 + 2 from rfl)]
  show (2 ^ 25 - 1) * (2 : ℚ) ^ (103 : Nat) = _
  rw [sub_mul, one_mul, ← pow_add]

theorem double_overflowBound : double.overflowBound = 2 ^ (1024 : Nat) - 2 ^ (970 : Nat) := by
  rw [FpFormat.overflowBound_eq (show double.maxField = 2045 + 2 from rfl)]
  show (2 ^ 54 - 1) * (2 : ℚ) ^ (970 : Nat) = _
  rw [sub_mul, one_mul, ← pow_add]

/-- `r` is the pattern of sign `neg` that the exact number `x` rounds to (R261): the infinity from `overflowBound` on, else a
finite pattern as near to `x` as any, with last bit 0 when another is as near. -/
def FpFormat.IsRounded (f : FpFormat) (x : ℚ) (neg : Bool) (r : Nat) : Prop :=
  if f.overflowBound ≤ |x| then f.decode r = .inf neg
  else ∃ n g, f.decode r = .fin neg n g ∧ ∀ (w : Nat) (c : Bool) (m : Nat) (e : Int), f.decode w = .fin c m e →
    |x - finiteValue neg n g| ≤ |x - finiteValue c m e| ∧
    (|x - finiteValue neg n g| = |x - finiteValue c m e| → finiteValue neg n g ≠ finiteValue c m e → r % 2 = 0)

section IsRounded
variable {f : FpFormat}

/-- The pattern that a magnitude, cut at the infinities, makes. -/
theorem FpFormat.decode_signBit_add_min (f : FpFormat) (neg : Bool) (k : Nat) :
    f.decode (f.signBit neg + min k f.infMag) = f.decodeMag neg (min k f.infMag) :=
  f.decode_signBit_add neg ((min_le_right _ _).trans_lt f.infMag_lt)

theorem FpFormat.signBit_even (hfrac : f.fracBits ≠ 0) (neg : Bool) : f.signBit neg % 2 = 0 := by
  obtain ⟨w, hw⟩ := Nat.exists_eq_succ_of_ne_zero hfrac
  rw [f.signBit_eq, hw, Nat.succ_eq_add_one, ← add_assoc, pow_succ, ← mul_assoc, Nat.mul_mod_left]

/-- The distance of two numbers with signs, in units: their magnitudes' difference or sum. -/
theorem abs_signed_sub_signed (a c : Bool) (x v : ℚ) {u : ℚ} (hu : 0 < u) :
    |(if a then -1 else 1) * (x * u) - (if c then -1 else 1) * (v * u)| =
      (if a = c then |x - v| else |x + v|) * u := by
  have hfactor : (if a then -1 else 1) * (x * u) - (if c then -1 else 1) * (v * u) =
      (if a then -1 else 1) * ((if a = c then x - v else x + v) * u) := by
    cases a <;> cases c <;> simp <;> ring
  have hsign : |if a then (-1 : ℚ) else 1| = 1 := by cases a <;> simp
  rw [hfactor, abs_mul, hsign, one_mul, abs_mul, abs_of_pos hu, apply_ite abs]

/-- The pattern of the nearest magnitude, cut at the infinities, is the rounded one. -/
theorem FpFormat.NearestMag.isRounded (hfrac : f.fracBits ≠ 0) (hexp : f.expBits ≠ 0) {x : ℚ} (hx : 0 ≤ x) {k : Nat}
    (h : f.NearestMag x k) (neg : Bool) :
    f.IsRounded ((if neg then -1 else 1) * (x * 2 ^ f.minExp)) neg (f.signBit neg + min k f.infMag) := by
  have hunit : (0 : ℚ) < 2 ^ f.minExp := by positivity
  have hoverflow : f.overflowBound ≤ |(if neg then -1 else 1) * (x * 2 ^ f.minExp)| ↔ f.infMag ≤ k := by
    have habs : |(if neg then -1 else 1) * (x * 2 ^ f.minExp)| = x * 2 ^ f.minExp := by
      cases neg <;> simp [abs_mul, abs_of_nonneg hx, abs_of_pos hunit]
    rw [habs, FpFormat.overflowBound, mul_le_mul_iff_of_pos_right hunit, div_le_iff₀' two_pos,
      h.infMag_le_iff (K := ℚ) hfrac hexp]
  rw [FpFormat.IsRounded, FpFormat.decode_signBit_add_min]
  simp only [hoverflow]
  split
  case isTrue hinf => rw [min_eq_right hinf, f.decodeMag_infMag]
  case isFalse hfin =>
    rw [not_le] at hfin
    rw [min_eq_left hfin.le, f.decodeMag_of_lt hfin]
    refine ⟨_, _, rfl, fun w c m e hw => ?_⟩
    obtain ⟨j, -, -, -, rfl, rfl⟩ := f.eq_mant_of_decode_eq_fin hw
    have hparity : (f.signBit neg + k) % 2 = k % 2 := by
      have := f.signBit_even hfrac neg
      omega
    rw [hparity, f.finiteValue_mant, f.finiteValue_mant, abs_signed_sub_signed _ _ _ _ hunit,
      abs_signed_sub_signed _ _ _ _ hunit, if_pos rfl, mul_le_mul_iff_of_pos_right hunit, mul_left_inj' hunit.ne']
    split
    case isTrue hsame =>
      subst hsame
      obtain ⟨hle, htie⟩ := h.abs_sub_le j
      exact ⟨hle, fun heq hne => htie heq fun hunits => hne (by rw [hunits])⟩
    case isFalse hother =>
      obtain ⟨hle, htie⟩ := h.abs_add_le hx j
      refine ⟨hle, fun heq hne => htie heq fun hunits => hne ?_⟩
      rw [hunits]
      cases neg <;> cases c <;> simp at hother ⊢

/-- The encoder rounds the exact number `y * 2^e`. -/
theorem FpFormat.isRounded_encode (hfrac : f.fracBits ≠ 0) (hexp : f.expBits ≠ 0) {m : Nat} {e : Int} {sticky : Bool}
    {y : ℚ} (hm : m ≠ 0) (hy : ExactMant m sticky y) (hlong : sticky = true → 2 ^ (f.fracBits + 1) ≤ m) (neg : Bool) :
    f.IsRounded ((if neg then -1 else 1) * (y * 2 ^ e)) neg (f.encode neg m e sticky) := by
  have hnonneg : 0 ≤ y := (Nat.cast_nonneg m).trans hy.le
  have hscale : y * 2 ^ e = y * 2 ^ (e - f.minExp) * 2 ^ f.minExp := by
    rw [mul_assoc, ← zpow_add₀ two_ne_zero, sub_add_cancel]
  rw [hscale]
  exact (f.nearestMag_roundedMag hfrac hm hy hlong).isRounded hfrac hexp (by positivity) neg

end IsRounded

/-- The overflow thresholds of the two formats, and that both have exponent and fraction bits. -/
theorem overflowBound_of_format {f : FpFormat} {bound : ℚ}
    (h : f = single ∧ bound = 2 ^ (128 : Nat) - 2 ^ (103 : Nat) ∨ f = double ∧ bound = 2 ^ (1024 : Nat) - 2 ^ (970 : Nat)) :
    f.fracBits ≠ 0 ∧ f.expBits ≠ 0 ∧ f.overflowBound = bound := by
  obtain ⟨rfl, rfl⟩ | ⟨rfl, rfl⟩ := h
  · exact ⟨by decide, by decide, single_overflowBound⟩
  · exact ⟨by decide, by decide, double_overflowBound⟩

theorem abs_finiteValue (a : Bool) (m : Nat) (e : Int) : |finiteValue a m e| = (m : ℚ) * 2 ^ e := by
  have hnonneg : (0 : ℚ) ≤ m * 2 ^ e := by positivity
  rw [finiteValue_eq_ite]
  cases a
  · exact abs_of_nonneg hnonneg
  · exact (abs_neg _).trans (abs_of_nonneg hnonneg)

/-- Settles O51: the encoder's magnitude is nearest to the exact number on the grid of all magnitudes (`nearestMag_roundedMag`),
and `isRounded` reads that off for the patterns. -/
theorem roundsToNearest : Obligations.RoundsToNearest := by
  intro f bound hf neg m e hm
  obtain ⟨hfrac, hexp, rfl⟩ := overflowBound_of_format hf
  have hround := f.isRounded_encode (e := e) (sticky := false) (y := (m : ℚ)) hfrac hexp hm rfl (by simp) neg
  rwa [← mul_assoc, ← finiteValue, FpFormat.IsRounded, abs_finiteValue] at hround

end Sys2Proof.Machine
end

section
/-! Floating-point arithmetic (45_fp_arithmetic.md R260 to R264): the quotient and the root are cut to an integer with a sticky bit and
rounded once, sum and product are exact integers rounded once, and a number that a format has exactly is encoded to itself. -/

namespace Sys2Proof.Machine

/-! ### The quotient (R261) -/

/-- A quotient cut to an integer, its remainder the sticky bit. -/
theorem exactMant_div {K : Type*} [Field K] [LinearOrder K] [IsStrictOrderedRing K] (a : Nat) {n : Nat} (hn : n ≠ 0) :
    ExactMant (a / n) (a % n != 0) ((a : K) / n) := by
  have hpos : (0 : K) < n := by exact_mod_cast Nat.pos_of_ne_zero hn
  have hdiv : (a : K) = (a / n : Nat) * n + (a % n : Nat) := by exact_mod_cast (Nat.div_add_mod' a n).symm
  have hrem : ((a % n : Nat) : K) < n := by exact_mod_cast Nat.mod_lt a (Nat.pos_of_ne_zero hn)
  by_cases hzero : a % n = 0
  · rw [ExactMant, if_neg (by simp [hzero]), hdiv, hzero, Nat.cast_zero, add_zero, mul_div_cancel_right₀ _ hpos.ne']
  · have hgt : (0 : K) < (a % n : Nat) := by exact_mod_cast Nat.pos_of_ne_zero hzero
    rw [ExactMant, if_pos (by simp [hzero]), lt_div_iff₀ hpos, div_lt_iff₀ hpos, add_mul, one_mul]
    constructor <;> linarith

/-- The quotient of two finite numbers that are not 0, the divisor's significand of the format's precision, is rounded once. -/
theorem FpFormat.isRounded_div {f : FpFormat} (hfrac : f.fracBits ≠ 0) (hexp : f.expBits ≠ 0) {a b : Bool} {m n : Nat}
    {e g : Int} (hm : m ≠ 0) (hn : n ≠ 0) (hprec : n < 2 ^ (f.fracBits + 1)) :
    ∃ r, f.div (.fin a m e) (.fin b n g) = some r ∧ f.IsRounded (finiteValue a m e / finiteValue b n g) (a ^^ b) r := by
  have hlong : 2 ^ (f.fracBits + 1) ≤ m * 2 ^ (2 * f.fracBits + 5) / n := by
    rw [Nat.le_div_iff_mul_le (Nat.pos_of_ne_zero hn)]
    calc 2 ^ (f.fracBits + 1) * n ≤ 2 ^ (f.fracBits + 1) * 2 ^ (f.fracBits + 1) := Nat.mul_le_mul_left _ hprec.le
      _ = 2 ^ (2 * f.fracBits + 2) := by rw [← pow_add]; congr 1; omega
      _ ≤ 2 ^ (2 * f.fracBits + 5) := Nat.pow_le_pow_right two_pos (by omega)
      _ ≤ m * 2 ^ (2 * f.fracBits + 5) := Nat.le_mul_of_pos_left _ (Nat.pos_of_ne_zero hm)
  have hcut : m * 2 ^ (2 * f.fracBits + 5) / n ≠ 0 := (lt_of_lt_of_le (Nat.two_pow_pos _) hlong).ne'
  refine ⟨_, by rw [FpFormat.div, if_neg hn, if_neg hm], ?_⟩
  have hround := f.isRounded_encode (e := e - g - (2 * f.fracBits + 5 : Nat)) hfrac hexp hcut
    (exactMant_div (K := ℚ) (m * 2 ^ (2 * f.fracBits + 5)) hn) (fun _ => hlong) (a ^^ b)
  convert hround using 1
  have hn' : (n : ℚ) ≠ 0 := by exact_mod_cast hn
  rw [finiteValue, finiteValue, zpow_sub₀ two_ne_zero, zpow_sub₀ two_ne_zero, zpow_natCast]
  push_cast
  cases a <;> cases b <;> simp <;> field_simp

/-! ### The square root (R261) -/

/-- Bit by bit the root stays between: its square is at most `n`, and that of its successor in the last bit decided is not. -/
theorem isqrtFrom_bounds (n : Nat) (i r : Nat) (hle : r * r ≤ n) (hlt : n < (r + 2 ^ i) * (r + 2 ^ i)) :
    isqrtFrom n i r * isqrtFrom n i r ≤ n ∧ n < (isqrtFrom n i r + 1) * (isqrtFrom n i r + 1) := by
  induction i generalizing r with
  | zero => exact ⟨hle, hlt⟩
  | succ i ih =>
    rw [isqrtFrom]
    rw [pow_succ, mul_two, ← add_assoc] at hlt
    split
    case isTrue hbit => exact ih _ hbit hlt
    case isFalse hbit => exact ih _ hle (not_le.mp hbit)

theorem isqrt_bounds {n i : Nat} (h : n < 2 ^ (2 * i)) :
    isqrt n i * isqrt n i ≤ n ∧ n < (isqrt n i + 1) * (isqrt n i + 1) :=
  isqrtFrom_bounds n i 0 (Nat.zero_le _) (by rwa [zero_add, ← pow_add, ← two_mul])

/-- A square root cut to an integer, the sticky bit saying that it was no square. -/
theorem exactMant_sqrt {n r : Nat} (hle : r * r ≤ n) (hlt : n < (r + 1) * (r + 1)) :
    ExactMant r (r * r != n) (√(n : ℝ)) := by
  by_cases hsquare : r * r = n
  · rw [ExactMant, if_neg (by simp [hsquare]), ← hsquare, Nat.cast_mul, Real.sqrt_mul_self (Nat.cast_nonneg r)]
  · have hgt : r * r < n := lt_of_le_of_ne hle hsquare
    rw [ExactMant, if_pos (by simp [hsquare]), Real.lt_sqrt (Nat.cast_nonneg r), Real.sqrt_lt' (by positivity), sq, sq]
    exact ⟨by exact_mod_cast hgt, by exact_mod_cast hlt⟩

/-- The root of a positive number of the format's precision is the magnitude nearest to a real number whose square it is. -/
theorem FpFormat.nearestMag_sqrt {f : FpFormat} (hfrac : f.fracBits ≠ 0) {m : Nat} {e : Int} (hm : m ≠ 0)
    (hprec : m < 2 ^ (f.fracBits + 1)) :
    ∃ (k : Nat) (x : ℝ), f.sqrt (.fin false m e) = some (f.signBit false + min k f.infMag) ∧ f.NearestMag x k ∧ 0 ≤ x ∧
      (x * 2 ^ f.minExp) ^ 2 = m * 2 ^ e := by
  obtain ⟨odd, hodd⟩ : ∃ odd, odd = (e % 2).toNat := ⟨_, rfl⟩
  obtain ⟨wide, hwide⟩ : ∃ wide, wide = m * 2 ^ (2 * (f.fracBits + 3) + odd) := ⟨_, rfl⟩
  obtain ⟨r, hr⟩ : ∃ r, r = isqrt wide (2 * f.fracBits + 6) := ⟨_, rfl⟩
  have hsmall : wide < 2 ^ (2 * (2 * f.fracBits + 6)) :=
    calc wide = m * 2 ^ (2 * (f.fracBits + 3) + odd) := hwide
      _ < 2 ^ (f.fracBits + 1) * 2 ^ (2 * (f.fracBits + 3) + odd) := Nat.mul_lt_mul_of_pos_right hprec (Nat.two_pow_pos _)
      _ = 2 ^ (3 * f.fracBits + 7 + odd) := by rw [← pow_add]; congr 1; omega
      _ ≤ 2 ^ (2 * (2 * f.fracBits + 6)) := Nat.pow_le_pow_right two_pos (by omega)
  obtain ⟨hle, hlt⟩ := isqrt_bounds hsmall
  rw [← hr] at hle hlt
  have hlong : 2 ^ (f.fracBits + 1) ≤ r := by
    have hwide' : 2 ^ (f.fracBits + 3) * 2 ^ (f.fracBits + 3) ≤ wide :=
      calc 2 ^ (f.fracBits + 3) * 2 ^ (f.fracBits + 3) = 2 ^ (2 * (f.fracBits + 3)) := by rw [← pow_add]; congr 1; omega
        _ ≤ 2 ^ (2 * (f.fracBits + 3) + odd) := Nat.pow_le_pow_right two_pos (by omega)
        _ ≤ wide := hwide ▸ Nat.le_mul_of_pos_left _ (Nat.pos_of_ne_zero hm)
    have hroot : 2 ^ (f.fracBits + 3) < r + 1 := Nat.mul_self_lt_mul_self_iff.mp (hwide'.trans_lt hlt)
    have hpow : 2 ^ (f.fracBits + 1) ≤ 2 ^ (f.fracBits + 3) := Nat.pow_le_pow_right two_pos (by omega)
    omega
  have hrne : r ≠ 0 := (lt_of_lt_of_le (Nat.two_pow_pos _) hlong).ne'
  obtain ⟨h, hh⟩ : ∃ h : Int, e - odd = 2 * h := ⟨(e - odd) / 2, by omega⟩
  have hexp : (e - odd) / 2 = h := by omega
  refine ⟨f.roundedMag r (h - (f.fracBits + 3 : Nat)) (r * r != wide), _, ?_,
    f.nearestMag_roundedMag hfrac hrne (exactMant_sqrt hle hlt) (fun _ => hlong), by positivity, ?_⟩
  · rw [FpFormat.sqrt, if_neg hm, if_neg (by decide), ← FpFormat.encode_eq]
    simp only [← hodd, ← hwide, ← hr, hexp]
  · rw [mul_assoc, ← zpow_add₀ two_ne_zero, sub_add_cancel, mul_pow, Real.sq_sqrt (Nat.cast_nonneg _), hwide, Nat.cast_mul,
      Nat.cast_pow, Nat.cast_ofNat, mul_assoc, ← zpow_natCast, ← zpow_natCast, ← zpow_mul, ← zpow_add₀ two_ne_zero]
    congr 2
    push_cast
    omega

/-- The square root never overflows: its square would be at least the square of the threshold. -/
theorem FpFormat.sqrt_lt_infMag {f : FpFormat} (hfrac : f.fracBits ≠ 0) (hexp : f.expBits ≠ 0)
    (hbound : 2 ≤ f.overflowBound) {j k : Nat} {x : ℝ} (hk : f.NearestMag x k) (hj : j < f.infMag)
    (hx : (x * 2 ^ f.minExp) ^ 2 = f.units j * 2 ^ f.minExp) : k < f.infMag := by
  by_contra hover
  have hunit : (0 : ℝ) < 2 ^ f.minExp := by positivity
  have hover := (hk.infMag_le_iff hfrac hexp).mp (not_lt.mp hover)
  have hroot : (f.overflowBound : ℝ) ≤ x * 2 ^ f.minExp := by
    rw [FpFormat.overflowBound]
    push_cast
    exact mul_le_mul_of_nonneg_right (by linarith) hunit.le
  have hsquare : (x * 2 ^ f.minExp) ^ 2 < 2 * f.overflowBound := by
    have hj' : (f.units j : ℝ) < f.units f.infMag := by exact_mod_cast f.units_strictMono hj
    have hlast : (0 : ℝ) ≤ f.units (f.infMag - 1) := Nat.cast_nonneg _
    rw [hx, FpFormat.overflowBound]
    push_cast
    rw [← mul_assoc]
    exact mul_lt_mul_of_pos_right (by linarith) hunit
  have hbound' : (2 : ℝ) ≤ f.overflowBound := by exact_mod_cast hbound
  nlinarith only [hroot, hsquare, hbound']

/-- The root of a positive pattern is a finite pattern nearest to the exact root, by the squares of the middles. -/
theorem FpFormat.exists_sqrt_nearest {f : FpFormat} (hfrac : f.fracBits ≠ 0) (hexp : f.expBits ≠ 0)
    (hbound : 2 ≤ f.overflowBound) {p m : Nat} {e : Int} (hm : m ≠ 0) (hp : f.decode p = .fin false m e) :
    ∃ r k h, f.sqrt (.fin false m e) = some r ∧ f.decode r = .fin false k h ∧
      ∀ (w k' : Nat) (h' : Int), f.decode w = .fin false k' h' →
        (finiteValue false k h < finiteValue false k' h' →
          4 * finiteValue false m e ≤ (finiteValue false k' h' + finiteValue false k h) ^ 2) ∧
        (finiteValue false k' h' < finiteValue false k h →
          (finiteValue false k' h' + finiteValue false k h) ^ 2 ≤ 4 * finiteValue false m e) := by
  obtain ⟨j, -, hj, -, rfl, rfl⟩ := f.eq_mant_of_decode_eq_fin hp
  obtain ⟨k, x, hsqrt, hnear, hx, hsquare⟩ := f.nearestMag_sqrt (e := f.minExp + f.place j) hfrac hm (f.mant_lt j)
  rw [f.mant_mul_two_zpow] at hsquare
  have hfin := f.sqrt_lt_infMag hfrac hexp hbound hnear hj hsquare
  rw [min_eq_left hfin.le] at hsqrt
  refine ⟨_, f.mant k, f.minExp + f.place k, hsqrt, ?_, fun w k' h' hw => ?_⟩
  · rw [f.decode_signBit_add _ (hfin.trans f.infMag_lt), f.decodeMag_of_lt hfin]
  · obtain ⟨i, -, -, -, rfl, rfl⟩ := f.eq_mant_of_decode_eq_fin hw
    have hunit : (0 : ℝ) < 2 ^ f.minExp := by positivity
    have hunit' : (0 : ℚ) < 2 ^ f.minExp := by positivity
    obtain ⟨hup, hdown⟩ := hnear i
    simp only [f.finiteValue_mant, Bool.false_eq_true, if_false, one_mul, mul_lt_mul_iff_of_pos_right hunit', Nat.cast_lt,
      f.units_strictMono.lt_iff_lt, ← Rat.cast_le (K := ℝ)]
    push_cast
    rw [← hsquare, show 4 * (x * (2 : ℝ) ^ f.minExp) ^ 2 = (2 * x * 2 ^ f.minExp) ^ 2 by ring, ← add_mul]
    refine ⟨fun hlt => ?_, fun hlt => ?_⟩
    · have hmiddle := (hup hlt).1
      exact pow_le_pow_left₀ (by positivity) (mul_le_mul_of_nonneg_right (by linarith) hunit.le) 2
    · have hmiddle := (hdown hlt).1
      exact pow_le_pow_left₀ (by positivity) (mul_le_mul_of_nonneg_right (by linarith) hunit.le) 2

/-- Settles O53: the quotient by `isRounded_div`, the root by `exists_sqrt_nearest`. -/
theorem quotientAndRoot : Obligations.QuotientAndRoot := by
  intro f bound hf p q a b m n e g hm hn hp hq
  obtain ⟨hfrac, hexp, rfl⟩ := overflowBound_of_format hf
  have htwo : 2 ≤ f.overflowBound := by
    obtain ⟨rfl, -⟩ | ⟨rfl, -⟩ := hf
    · exact FpFormat.two_le_overflowBound (c := 253) rfl (by decide)
    · exact FpFormat.two_le_overflowBound (c := 2045) rfl (by decide)
  constructor
  · obtain ⟨j, -, -, -, hmant, -⟩ := f.eq_mant_of_decode_eq_fin hq
    rw [hp, hq]
    exact f.isRounded_div hfrac hexp hm hn (hmant ▸ f.mant_lt j)
  · rintro rfl
    rw [hp]
    exact f.exists_sqrt_nearest hfrac hexp htwo hm hp

/-! ### Sum, difference and product (R261, R264) -/

/-- The significand of a number whose exponent is lowered to `k`. -/
theorem signedMant_mul_two_zpow (a : Bool) (m : Nat) {e k : Int} (h : k ≤ e) :
    (signedMant a (m * 2 ^ (e - k).toNat) : ℚ) * 2 ^ k = finiteValue a m e := by
  obtain ⟨d, hd⟩ := Int.eq_ofNat_of_zero_le (sub_nonneg.mpr h)
  have he : (2 : ℚ) ^ e = 2 ^ d * 2 ^ k := by
    rw [← zpow_natCast, ← zpow_add₀ two_ne_zero, show (d : Int) + k = e by omega]
  rw [hd, Int.toNat_natCast, finiteValue, he]
  cases a <;> simp [signedMant] <;> ring

/-- An integer is its sign and its magnitude. -/
theorem finiteValue_natAbs (v : Int) (k : Int) : finiteValue (decide (v < 0)) v.natAbs k = v * 2 ^ k := by
  rw [finiteValue]
  congr 1
  obtain hneg | hnonneg := Int.lt_or_le v 0
  · rw [decide_eq_true hneg, if_pos rfl, Nat.cast_natAbs, abs_of_neg hneg]
    push_cast
    ring
  · rw [decide_eq_false (not_lt.mpr hnonneg), if_neg (by decide), Nat.cast_natAbs, abs_of_nonneg hnonneg, one_mul]

theorem finiteValue_not (b : Bool) (n : Nat) (g : Int) : finiteValue (!b) n g = -finiteValue b n g := by
  cases b <;> simp [finiteValue]

theorem finiteValue_mul (a b : Bool) (m n : Nat) (e g : Int) :
    finiteValue a m e * finiteValue b n g = finiteValue (a ^^ b) (m * n) (e + g) := by
  rw [finiteValue, finiteValue, finiteValue, zpow_add₀ two_ne_zero]
  push_cast
  cases a <;> cases b <;> simp <;> ring

theorem finiteValue_eq_zero_iff (a : Bool) (m : Nat) (e : Int) : finiteValue a m e = 0 ↔ m = 0 := by
  rw [← abs_eq_zero, abs_finiteValue, mul_eq_zero, Nat.cast_eq_zero, or_iff_left (zpow_ne_zero e two_ne_zero)]

/-- The sum is computed exactly, as an integer at the lesser exponent, and rounded once. -/
theorem FpFormat.add_exact (f : FpFormat) (a b : Bool) (m n : Nat) (e g : Int) :
    ∃ r, f.add (.fin a m e) (.fin b n g) = some r ∧
      if finiteValue a m e + finiteValue b n g = 0 then r = f.signBit (a && b)
      else ∃ c k h, k ≠ 0 ∧ finiteValue c k h = finiteValue a m e + finiteValue b n g ∧ r = f.encode c k h false := by
  refine ⟨_, rfl, ?_⟩
  have hsum := congrArg₂ (· + ·) (signedMant_mul_two_zpow a m (min_le_left e g))
    (signedMant_mul_two_zpow b n (min_le_right e g))
  simp only [← add_mul, ← Int.cast_add] at hsum
  simp only [← hsum, mul_eq_zero, zpow_ne_zero _ (two_ne_zero (α := ℚ)), or_false, Int.cast_eq_zero]
  split
  case isTrue hzero => rfl
  case isFalse hne => exact ⟨_, _, _, Int.natAbs_ne_zero.mpr hne, finiteValue_natAbs _ _, rfl⟩

/-- The product is computed exactly and rounded once. -/
theorem FpFormat.mul_exact (f : FpFormat) (a b : Bool) (m n : Nat) (e g : Int) :
    ∃ r, f.mul (.fin a m e) (.fin b n g) = some r ∧
      if finiteValue a m e * finiteValue b n g = 0 then r = f.signBit (a ^^ b)
      else ∃ k h, k ≠ 0 ∧ finiteValue (a ^^ b) k h = finiteValue a m e * finiteValue b n g ∧
        r = f.encode (a ^^ b) k h false := by
  refine ⟨_, rfl, ?_⟩
  rw [finiteValue_mul, FpFormat.ofFin]
  simp only [finiteValue_eq_zero_iff]
  split
  case isTrue hzero => rfl
  case isFalse hne => exact ⟨_, _, hne, rfl, rfl⟩

/-- Settles O52: a difference is the sum with the second sign inverted. -/
theorem exactThenRounded : Obligations.ExactThenRounded := by
  intro f a b m n e g
  refine ⟨f.add_exact a b m n e g, ?_, f.mul_exact a b m n e g⟩
  have hsum := f.add_exact a (!b) m n e g
  simp only [finiteValue_not, ← sub_eq_add_neg] at hsum
  exact hsum

/-! ### Special results (R262, R263, R264) -/

theorem FpFormat.add_nan (f : FpFormat) (v : FpVal) : f.add v .nan = none := by cases v <;> rfl

theorem FpFormat.mul_nan (f : FpFormat) (v : FpVal) : f.mul v .nan = none := by cases v <;> rfl

theorem FpFormat.div_nan (f : FpFormat) (v : FpVal) : f.div v .nan = none := by cases v <;> rfl

/-- A finite number less itself is +0. -/
theorem FpFormat.sub_self_fin (f : FpFormat) (a : Bool) (n : Nat) (e : Int) :
    f.sub (.fin a n e) (.fin a n e) = some (f.signBit false) := by
  obtain ⟨r, hr, hzero⟩ := f.add_exact a (!a) n n e e
  rw [finiteValue_not, if_pos (add_neg_cancel _), Bool.and_not_self] at hzero
  rw [← hzero]
  exact hr

/-- Settles O55. -/
theorem specialResults : Obligations.SpecialResults := by
  intro f v a b m n e g hm
  refine ⟨?nan, ?sum, ?product, ?quotient, ?root, ?convert⟩
  case nan =>
    exact ⟨rfl, f.add_nan v, rfl, f.add_nan v, rfl, f.mul_nan v, rfl, f.div_nan v, rfl, rfl⟩
  case sum =>
    have hopposite (c : Bool) : f.add (.inf c) (.inf (!c)) = none := if_neg (Bool.eq_not_self c).mp
    have hsame : f.sub (.inf a) (.inf (!a)) = some (f.infBits a) := if_pos (Bool.not_not a).symm
    exact ⟨f.sub_self_fin a n e, if_pos rfl, hopposite a, hopposite a, hsame, rfl, rfl, rfl, rfl⟩
  case product => exact ⟨rfl, if_neg hm, if_neg hm, rfl, rfl⟩
  case quotient => exact ⟨if_neg hm, rfl, rfl, if_neg hm, rfl, rfl⟩
  case root => exact ⟨(if_neg hm).trans (if_pos rfl), rfl, rfl, rfl⟩
  case convert => exact ⟨rfl, rfl⟩

/-! ### Numbers that the format has exactly (R260) -/

section Exact
variable {f : FpFormat}

/-- A number of the format's precision that is no smaller than the least place is not rounded. -/
theorem FpFormat.units_roundedMag {m : Nat} (hm : m ≠ 0) (hprec : m < 2 ^ (f.fracBits + 1)) (d : Nat) :
    f.units (f.roundedMag m (f.minExp + d) false) = m * 2 ^ d := by
  have hlog : Nat.log2 m < f.fracBits + 1 := (Nat.log2_lt hm).mpr hprec
  have hulp := f.ulpExp_eq m (f.minExp + d)
  have hexact : f.roundedPlace m (f.minExp + d) ≤ d := by
    have hle : f.ulpExp m (f.minExp + d) ≤ f.minExp + d := max_le (by omega) (by omega)
    omega
  have hmant : f.roundedMant m (f.minExp + d) false = m * 2 ^ (d - f.roundedPlace m (f.minExp + d)) := by
    rw [FpFormat.roundedMant, if_pos (by omega)]
    congr 2
    omega
  have hfits := f.fitsPlace_roundedMant (e := f.minExp + d) (sticky := false) (y := (m : ℚ)) hm rfl (by simp)
  rw [FpFormat.roundedMag, hfits.units_eq, hmant, mul_assoc, ← pow_add, Nat.sub_add_cancel hexact]

/-- A finite magnitude is encoded to itself. -/
theorem FpFormat.ofFin_mant {k : Nat} (hk : k < f.infMag) (neg : Bool) :
    f.ofFin neg (f.mant k) (f.minExp + f.place k) = f.signBit neg + k := by
  rw [FpFormat.ofFin]
  split
  case isTrue hzero =>
    have hunits : f.units k = f.units 0 := by rw [FpFormat.units, hzero, zero_mul, f.units_zero]
    rw [f.units_strictMono.injective hunits, add_zero]
  case isFalse hne =>
    have hmag := f.units_strictMono.injective (f.units_roundedMag hne (f.mant_lt k) (f.place k))
    rw [f.encode_eq, hmag, min_eq_left hk.le]

/-- A pattern that is no NaN is encoded to itself. -/
theorem FpFormat.convert_decode {bits : Nat} (hbits : bits < 2 ^ (f.expBits + f.fracBits + 1))
    (hnan : f.decode bits ≠ .nan) : f.convert (f.decode bits) = some bits := by
  have hsplit := f.signBit_signOf_add_mod hbits
  rw [f.decode_eq_decodeMag] at hnan ⊢
  rw [FpFormat.decodeMag] at hnan ⊢
  split_ifs at hnan ⊢ with hfin hinf
  · rw [FpFormat.convert, f.ofFin_mant hfin, hsplit]
  · rw [hinf] at hsplit
    exact congrArg some hsplit
  · exact absurd rfl hnan

/-- A number of the format's precision and of its exponents is a finite pattern of exactly that value. -/
theorem FpFormat.decode_ofFin_exact {m d : Nat} (hprec : m < 2 ^ (f.fracBits + 1)) (hd : d + 2 ≤ f.maxField) (neg : Bool) :
    ∃ n g, f.decode (f.ofFin neg m (f.minExp + d)) = .fin neg n g ∧
      finiteValue neg n g = finiteValue neg m (f.minExp + d) := by
  obtain ⟨c, hc⟩ : ∃ c, f.maxField = c + 2 := ⟨f.maxField - 2, by omega⟩
  obtain ⟨k, hk, hpattern, hunits⟩ : ∃ k, k < f.infMag ∧ f.ofFin neg m (f.minExp + d) = f.signBit neg + k ∧
      f.units k = m * 2 ^ d := by
    rw [FpFormat.ofFin]
    split
    case isTrue hzero => exact ⟨0, f.infMag_eq hc ▸ Nat.add_pos_right _ (Nat.two_pow_pos _), rfl, by simp [hzero]⟩
    case isFalse hne =>
      have hunits := f.units_roundedMag hne hprec d
      have hfin : f.roundedMag m (f.minExp + d) false < f.infMag := by
        rw [← f.units_strictMono.lt_iff_lt, hunits, f.units_infMag hc]
        exact Nat.mul_lt_mul_of_lt_of_le hprec (Nat.pow_le_pow_right two_pos (by omega)) (Nat.two_pow_pos _)
      exact ⟨_, hfin, by rw [f.encode_eq, min_eq_left hfin.le], hunits⟩
  refine ⟨_, _, by rw [hpattern, f.decode_signBit_add _ (hk.trans f.infMag_lt), f.decodeMag_of_lt hk], ?_⟩
  rw [f.finiteValue_mant, hunits, finiteValue, zpow_add₀ two_ne_zero, zpow_natCast]
  push_cast
  ring

end Exact

theorem isNan32_eq_false_iff (v : Word) : isNan32 v = false ↔ single.decode v.toNat ≠ .nan := beq_eq_false_iff_ne

theorem isNan64_eq_false_iff (v : DWord) : isNan64 v = false ↔ double.decode v.toNat ≠ .nan := beq_eq_false_iff_ne

/-- Settles O54. -/
theorem formatRoundTrip : Obligations.FormatRoundTrip := by
  constructor
  · intro v hv
    rw [b32, single.convert_decode v.isLt ((isNan32_eq_false_iff v).mp hv)]
    exact congrArg some (by simp)
  · intro v hv
    rw [b64, double.convert_decode v.isLt ((isNan64_eq_false_iff v).mp hv)]
    exact congrArg some (by simp)

end Sys2Proof.Machine
end

section
/-! The instructions of the floating-point arithmetic and the conversions between formats (45_fp_arithmetic.md R263 to R280,
46_fp_compare_convert_move.md R302 to R305): each answers one result and the advance, and a NaN is drawn where the result is one. -/

namespace Sys2Proof.Machine

/-! ### Results into a coprocessor 1 register or a pair (R263, R266) -/

theorem onlyFpr_putSingle_advance (s : State) (fd : Reg) (r : Option Word) :
    OnlyFpr s (s.putSingle fd r).advance fd (r.getD (nan32Of (Config.freeSingle s.draws))) :=
  ⟨rfl, s.f_putSingle fd r, fun _ => rfl, ⟨rfl, rfl⟩, fun _ => rfl, ⟨rfl, rfl, rfl, rfl⟩, fun _ => rfl, ⟨rfl, rfl, rfl⟩⟩

theorem onlyPair_putDouble_advance (s : State) (fd : Reg) (r : Option DWord) :
    OnlyPair s (s.putDouble fd r).advance fd (r.getD (nan64Of (Config.freeDouble s.draws))) :=
  onlyPair_setD_advance s fd _

theorem singleResult_getD (r : Option Word) (raw : Word) : SingleResult r (r.getD (nan32Of raw)) := by
  cases r with
  | none => exact isNan32_nan32Of raw
  | some w => rfl

theorem doubleResult_getD (r : Option DWord) (raw : DWord) : DoubleResult r (r.getD (nan64Of raw)) := by
  cases r with
  | none => exact isNan64_nan64Of raw
  | some w => rfl

/-- An instruction that answers a single-precision result and the advance completes with that result, or some NaN; a free value
is drawn only for a NaN. -/
theorem completes_putSingle {s : State} {i : Instr} {fd : Reg} {r : Option Word}
    (h : exec i s = .next (s.putSingle fd r).advance) :
    ∃ t v, exec i s = .next t ∧ OnlyFpr s t fd v ∧ SingleResult r v ∧ (r.isSome = true → t.draws = s.draws) :=
  ⟨_, _, h, onlyFpr_putSingle_advance s fd r, singleResult_getD r _, fun hr => if_pos hr⟩

/-- As `completes_putSingle`, in double precision. -/
theorem completes_putDouble {s : State} {i : Instr} {fd : Reg} {r : Option DWord}
    (h : exec i s = .next (s.putDouble fd r).advance) :
    ∃ t v, exec i s = .next t ∧ OnlyPair s t fd v ∧ DoubleResult r v ∧ (r.isSome = true → t.draws = s.draws) :=
  ⟨_, _, h, onlyPair_putDouble_advance s fd r, doubleResult_getD r _, fun hr => if_pos hr⟩

/-- A completion, with what a statement says of the value in place of `SingleResult`. -/
theorem completes_single {s : State} {i : Instr} {fd : Reg} {r : Option Word} {p : Word → Prop}
    (h : exec i s = .next (s.putSingle fd r).advance) (hp : ∀ v, SingleResult r v → p v) :
    ∃ t v, exec i s = .next t ∧ OnlyFpr s t fd v ∧ p v := by
  obtain ⟨t, v, hnext, honly, hresult, -⟩ := completes_putSingle h
  exact ⟨t, v, hnext, honly, hp v hresult⟩

theorem withEven_of_forall_even {regs : List Reg} {k : Result} (h : ∀ r ∈ regs, r.toNat % 2 = 0) : withEven regs k = k :=
  withEven_of_even fun r hr => beq_iff_eq.mpr (h r hr)

/-- As `completes_single`, in double precision, where the register numbers must be even (10_state.md R36). -/
theorem completes_double {s : State} {i : Instr} {fd : Reg} {r : Option DWord} {p : DWord → Prop} {regs : List Reg}
    (heven : ∀ r ∈ regs, r.toNat % 2 = 0) (h : exec i s = withEven regs (.next (s.putDouble fd r).advance))
    (hp : ∀ v, DoubleResult r v → p v) : ∃ t v, exec i s = .next t ∧ OnlyPair s t fd v ∧ p v := by
  obtain ⟨t, v, hnext, honly, hresult, -⟩ := completes_putDouble (h.trans (withEven_of_forall_even heven))
  exact ⟨t, v, hnext, honly, hp v hresult⟩

/-- Settles O49: each instruction answers the result of its operation and the advance; the double forms do so once the check of
their register numbers is passed. -/
theorem floatArithmetic : Obligations.FloatArithmetic := by
  refine ⟨fun s fd fs ft => ?single, fun s fd fs ft hfd hfs hft => ?double⟩
  case single =>
    exact ⟨completes_single rfl fun _ h => h, completes_single rfl fun _ h => h, completes_single rfl fun _ h => h,
      completes_single rfl fun _ h => h, completes_single rfl fun _ h => h⟩
  case double =>
    have three : ∀ r ∈ [fd, fs, ft], r.toNat % 2 = 0 := by simp [hfd, hfs, hft]
    have two : ∀ r ∈ [fd, fs], r.toNat % 2 = 0 := by simp [hfd, hfs]
    exact ⟨completes_double three rfl fun _ h => h, completes_double three rfl fun _ h => h,
      completes_double three rfl fun _ h => h, completes_double three rfl fun _ h => h,
      completes_double two rfl fun _ h => h⟩

/-! ### The sign operations (R265) -/

theorem getLsbD_and_abs_mask32 (w : Word) :
    ∀ k, k < 32 → (w &&& 0x7FFFFFFF).getLsbD k = if k = 31 then false else w.getLsbD k := by
  have hmask : ∀ k < 32, (0x7FFFFFFF : Word).getLsbD k = !decide (k = 31) := by decide
  intro k hk
  rw [BitVec.getLsbD_and, hmask k hk]
  split <;> simp [*]

theorem getLsbD_and_abs_mask64 (w : DWord) :
    ∀ k, k < 64 → (w &&& 0x7FFFFFFFFFFFFFFF).getLsbD k = if k = 63 then false else w.getLsbD k := by
  have hmask : ∀ k < 64, (0x7FFFFFFFFFFFFFFF : DWord).getLsbD k = !decide (k = 63) := by decide
  intro k hk
  rw [BitVec.getLsbD_and, hmask k hk]
  split <;> simp [*]

theorem getLsbD_xor_sign32 (w : Word) :
    ∀ k, k < 32 → (w ^^^ 0x80000000).getLsbD k = if k = 31 then !w.getLsbD k else w.getLsbD k := by
  have hmask : ∀ k < 32, (0x80000000 : Word).getLsbD k = decide (k = 31) := by decide
  intro k hk
  rw [BitVec.getLsbD_xor, hmask k hk]
  split <;> simp [*]

theorem getLsbD_xor_sign64 (w : DWord) :
    ∀ k, k < 64 → (w ^^^ 0x8000000000000000).getLsbD k = if k = 63 then !w.getLsbD k else w.getLsbD k := by
  have hmask : ∀ k < 64, (0x8000000000000000 : DWord).getLsbD k = decide (k = 63) := by decide
  intro k hk
  rw [BitVec.getLsbD_xor, hmask k hk]
  split <;> simp [*]

/-- What an operation gives that answers some NaN for a NaN, and a pattern `u` for any other operand. -/
theorem SingleResult.of_ite {w u v : Word} {p : Prop} (h : SingleResult (if isNan32 w then none else some u) v)
    (hp : v = u → p) : if isNan32 w then isNan32 v = true else p := by
  split at h
  case isTrue hnan => rwa [if_pos hnan]
  case isFalse hnum =>
    rw [if_neg hnum]
    exact hp h

theorem DoubleResult.of_ite {w u v : DWord} {p : Prop} (h : DoubleResult (if isNan64 w then none else some u) v)
    (hp : v = u → p) : if isNan64 w then isNan64 v = true else p := by
  split at h
  case isTrue hnan => rwa [if_pos hnan]
  case isFalse hnum =>
    rw [if_neg hnum]
    exact hp h

section SignResults
variable {w v : Word} {x u : DWord}

theorem SingleResult.abs (h : SingleResult (abs32 w) v) : if isNan32 w then isNan32 v = true
    else ∀ k, k < 32 → v.getLsbD k = if k = 31 then false else w.getLsbD k :=
  h.of_ite fun hv => hv ▸ getLsbD_and_abs_mask32 w

theorem SingleResult.neg (h : SingleResult (neg32 w) v) : if isNan32 w then isNan32 v = true
    else ∀ k, k < 32 → v.getLsbD k = if k = 31 then !w.getLsbD k else w.getLsbD k :=
  h.of_ite fun hv => hv ▸ getLsbD_xor_sign32 w

theorem DoubleResult.abs (h : DoubleResult (abs64 x) u) : if isNan64 x then isNan64 u = true
    else ∀ k, k < 64 → u.getLsbD k = if k = 63 then false else x.getLsbD k :=
  h.of_ite fun hv => hv ▸ getLsbD_and_abs_mask64 x

theorem DoubleResult.neg (h : DoubleResult (neg64 x) u) : if isNan64 x then isNan64 u = true
    else ∀ k, k < 64 → u.getLsbD k = if k = 63 then !x.getLsbD k else x.getLsbD k :=
  h.of_ite fun hv => hv ▸ getLsbD_xor_sign64 x

end SignResults

/-- Settles O50. -/
theorem signOperations : Obligations.SignOperations := by
  intro s fd fs
  refine ⟨completes_single rfl fun _ => SingleResult.abs, completes_single rfl fun _ => SingleResult.neg,
    fun hfd hfs => ?double⟩
  case double =>
    have heven : ∀ r ∈ [fd, fs], r.toNat % 2 = 0 := by simp [hfd, hfs]
    exact ⟨completes_double heven rfl fun _ => DoubleResult.abs, completes_double heven rfl fun _ => DoubleResult.neg⟩

/-! ### Conversions between the formats and from words (46_fp_compare_convert_move.md R302 to R305) -/

theorem FpFormat.decode_infBits (f : FpFormat) (neg : Bool) : f.decode (f.infBits neg) = .inf neg :=
  (f.decode_signBit_add neg f.infMag_lt).trans (f.decodeMag_infMag neg)

theorem b32_ofNat (r : Nat) : b32 (BitVec.ofNat 32 r) = single.decode r := by
  rw [b32, BitVec.toNat_ofNat]
  exact single.decode_mod r

theorem b64_ofNat (r : Nat) : b64 (BitVec.ofNat 64 r) = double.decode r := by
  rw [b64, BitVec.toNat_ofNat]
  exact double.decode_mod r

/-- A finite single has the precision and an exponent of the doubles. -/
theorem double_ofFin_of_single {bits m : Nat} {a : Bool} {e : Int} (h : single.decode bits = .fin a m e) :
    ∃ n g, b64 (BitVec.ofNat 64 (double.ofFin a m e)) = .fin a n g ∧ finiteValue a n g = finiteValue a m e := by
  obtain ⟨k, -, hk, -, rfl, rfl⟩ := FpFormat.eq_mant_of_decode_eq_fin h
  have hfield := (single.lt_infMag_iff k).mp hk
  have hplace : single.place k ≤ 253 := Nat.sub_le_sub_right (Nat.le_of_lt_succ hfield) 1
  have hexp : single.minExp + single.place k = double.minExp + (925 + single.place k : Nat) := by
    rw [show single.minExp = -149 from rfl, show double.minExp = -1074 from rfl]
    omega
  have hprec : single.mant k < 2 ^ (double.fracBits + 1) :=
    (single.mant_lt k).trans (Nat.pow_lt_pow_right one_lt_two (by decide))
  rw [b64_ofNat, hexp]
  exact double.decode_ofFin_exact hprec (by rw [show double.maxField = 2047 from rfl]; omega) a

/-- A word's integer is a double. -/
theorem double_ofInt_toInt (w : Word) :
    ∃ n g, b64 (BitVec.ofNat 64 (double.ofInt w.toInt)) = .fin (decide (w.toInt < 0)) n g ∧
      finiteValue (decide (w.toInt < 0)) n g = (w.toInt : ℚ) := by
  have hprec : w.toInt.natAbs < 2 ^ (double.fracBits + 1) := by
    have hlo := BitVec.le_toInt w
    have hhi := BitVec.toInt_lt (x := w)
    rw [show double.fracBits + 1 = 53 from rfl]
    omega
  have hzero : (0 : Int) = double.minExp + (1074 : Nat) := rfl
  obtain ⟨n, g, hdecode, hvalue⟩ := double.decode_ofFin_exact hprec (d := 1074) (by decide) (decide (w.toInt < 0))
  rw [← hzero] at hdecode hvalue
  refine ⟨n, g, (b64_ofNat _).trans hdecode, hvalue.trans ?_⟩
  rw [finiteValue_natAbs, zpow_zero, mul_one]

/-- Settles O59: what the encoder answers is read off case by case, and the doubles have every single and every word exactly
(`double_ofFin_of_single`, `double_ofInt_toInt`). -/
theorem convertFormats : Obligations.ConvertFormats := by
  intro s fd fs
  refine ⟨fun hfs => ?cvtSD, ?cvtSW, fun hfd => ⟨?cvtDS, ?cvtDW⟩⟩
  case cvtSD =>
    have goesOn (k : Result) : withEven [fs] k = k := withEven_of_forall_even (by simp [hfs])
    obtain ⟨t, v, hnext, honly, hresult, hdraws⟩ := completes_putSingle (i := .cvtSD fd fs) (goesOn _)
    refine ⟨t, v, hnext, honly, ?_⟩
    generalize b64 (s.d fs) = x at *
    cases x with
    | nan => exact hresult
    | inf a =>
      obtain rfl : v = BitVec.ofNat 32 (single.infBits a) := hresult
      exact ⟨(b32_ofNat _).trans (single.decode_infBits a), hdraws rfl⟩
    | fin a m e =>
      obtain rfl : v = BitVec.ofNat 32 (single.ofFin a m e) := hresult
      refine ⟨hdraws rfl, ?_⟩
      rw [FpFormat.ofFin]
      split
      case isTrue => cases a <;> rfl
      case isFalse => rfl
  case cvtSW =>
    refine ⟨_, _, rfl, onlyFpr_setF_advance s fd _, rfl, ?_⟩
    split
    case isTrue hzero =>
      rw [hzero]
      rfl
    case isFalse hne =>
      have hint : (s.f fs).toInt.natAbs ≠ 0 := by rwa [Int.natAbs_ne_zero, ← BitVec.toInt_zero, Ne, BitVec.toInt_inj]
      rw [FpFormat.ofInt, FpFormat.ofFin, if_neg hint]
  case cvtDS =>
    have goesOn (k : Result) : withEven [fd] k = k := withEven_of_forall_even (by simp [hfd])
    obtain ⟨t, v, hnext, honly, hresult, hdraws⟩ := completes_putDouble (i := .cvtDS fd fs) (goesOn _)
    refine ⟨t, v, hnext, honly, ?_⟩
    generalize hx : b32 (s.f fs) = x at *
    cases x with
    | nan => exact hresult
    | inf a =>
      obtain rfl : v = BitVec.ofNat 64 (double.infBits a) := hresult
      exact ⟨(b64_ofNat _).trans (double.decode_infBits a), hdraws rfl⟩
    | fin a m e =>
      obtain rfl : v = BitVec.ofNat 64 (double.ofFin a m e) := hresult
      exact ⟨hdraws rfl, double_ofFin_of_single hx⟩
  case cvtDW =>
    have goesOn (k : Result) : withEven [fd] k = k := withEven_of_forall_even (by simp [hfd])
    obtain ⟨n, g, hdecode, hvalue⟩ := double_ofInt_toInt (s.f fs)
    refine ⟨_, _, goesOn _, onlyPair_setD_advance s fd _, rfl, _, n, g, hdecode, hvalue, fun hzero => ?_⟩
    rw [hzero]
    rfl

end Sys2Proof.Machine
end

section
/-! The comparisons, the conversions whose rounding CVT_W_MODE leaves open, and the moves of coprocessor 1
(46_fp_compare_convert_move.md R290 to R323): each writes one flag or one register and advances, or advances alone. -/

namespace Sys2Proof.Machine

/-! ### The relations (R291) -/

section FiniteRelations
variable (a b : Bool) (m n : Nat) (e g : Int)

/-- The scaled integers are the exact values in units of one positive number, so they compare as the values do. -/
theorem scaled_mul_two_zpow :
    ((scaled a m e b n g).1 : ℚ) * 2 ^ min e g = finiteValue a m e ∧
      ((scaled a m e b n g).2 : ℚ) * 2 ^ min e g = finiteValue b n g :=
  ⟨signedMant_mul_two_zpow a m (min_le_left e g), signedMant_mul_two_zpow b n (min_le_right e g)⟩

theorem fpEq_fin_iff : fpEq (.fin a m e) (.fin b n g) = true ↔ finiteValue a m e = finiteValue b n g := by
  obtain ⟨hleft, hright⟩ := scaled_mul_two_zpow a b m n e g
  have hunit : (2 : ℚ) ^ min e g ≠ 0 := zpow_ne_zero _ two_ne_zero
  rw [← hleft, ← hright, mul_left_inj' hunit, Int.cast_inj]
  exact beq_iff_eq

theorem fpLt_fin_iff : fpLt (.fin a m e) (.fin b n g) = true ↔ finiteValue a m e < finiteValue b n g := by
  obtain ⟨hleft, hright⟩ := scaled_mul_two_zpow a b m n e g
  have hunit : (0 : ℚ) < 2 ^ min e g := zpow_pos two_pos _
  rw [← hleft, ← hright, mul_lt_mul_iff_of_pos_right hunit, Int.cast_lt]
  exact decide_eq_true_iff

end FiniteRelations

theorem fpLe_iff (u v : FpVal) : fpLe u v = true ↔ fpLt u v = true ∨ fpEq u v = true := by
  rw [fpLe, Bool.or_eq_true]

theorem fpLe_fin_iff (a b : Bool) (m n : Nat) (e g : Int) :
    fpLe (.fin a m e) (.fin b n g) = true ↔ finiteValue a m e ≤ finiteValue b n g := by
  rw [fpLe_iff, fpLt_fin_iff, fpEq_fin_iff, le_iff_lt_or_eq]

/-- A NaN is unordered: no relation holds with one on either side. -/
theorem unordered_nan (v : FpVal) :
    fpEq .nan v = false ∧ fpEq v .nan = false ∧ fpLt .nan v = false ∧ fpLt v .nan = false ∧
      fpLe .nan v = false ∧ fpLe v .nan = false := by
  cases v <;> exact ⟨rfl, rfl, rfl, rfl, rfl, rfl⟩

/-! ### The comparisons (R294 to R299) -/

/-- A write to a condition flag and the default advance change that flag and pc alone. -/
theorem onlyFlag_setFlag_advance (s : State) (k : CondFlag) (b : Bool) : OnlyFlag s (s.setFlag k b).advance k b :=
  ⟨rfl, s.flag_setFlag k b, fun _ => rfl, ⟨rfl, rfl⟩, fun _ => rfl, ⟨rfl, rfl, rfl, rfl⟩, fun _ => rfl, ⟨rfl, rfl, rfl⟩, rfl⟩

theorem completes_onlyFlag {s : State} {k : CondFlag} {b : Bool} {i : Instr}
    (h : exec i s = .next (s.setFlag k b).advance) : ∃ t, exec i s = .next t ∧ OnlyFlag s t k b :=
  ⟨_, h, onlyFlag_setFlag_advance s k b⟩

/-- Settles O56: the instructions write the relation to the flag, and between finite numbers the relation is that of the exact
values, scaled to integers by one unit. -/
theorem compares : Obligations.Compares := by
  refine ⟨fun s cc fs ft => ?instructions, fun a b m n e g => ?finite, fun a b m e => ?infinite, unordered_nan, fpLe_iff⟩
  case instructions =>
    refine ⟨completes_onlyFlag rfl, completes_onlyFlag rfl, completes_onlyFlag rfl, fun hfs hft => ?_⟩
    have goesOn (k : Result) : withEven [fs, ft] k = k := withEven_of_forall_even (by simp [hfs, hft])
    exact ⟨completes_onlyFlag (goesOn _), completes_onlyFlag (goesOn _), completes_onlyFlag (goesOn _)⟩
  case finite => exact ⟨fpEq_fin_iff a b m n e g, fpLt_fin_iff a b m n e g, fpLe_fin_iff a b m n e g⟩
  case infinite => exact ⟨beq_iff_eq, rfl, rfl, rfl, rfl, rfl, rfl, rfl, rfl, Bool.and_not_self a⟩

/-! ### Conversion to a word in an open mode (R306, R307) -/

/-- Whichever candidate CVT_W_MODE is, the word is that of one of the two. -/
theorem cvtWord_eq_mips_or_mars (v : FpVal) : cvtWord v = cvtWordMips v ∨ cvtWord v = cvtWordMars v := by
  rw [cvtWord]
  split
  case isTrue hagree => exact .inl rfl
  case isFalse hdiffer =>
    cases Config.cvtWMode with
    | mips32 => exact .inl rfl
    | mars => exact .inr rfl

theorem completes_cvtWord {s : State} {fd : Reg} {x : FpVal} {i : Instr}
    (h : exec i s = .next (s.setF fd (cvtWord x)).advance) :
    ∃ t v, exec i s = .next t ∧ OnlyFpr s t fd v ∧ t.draws = s.draws ∧ (v = cvtWordMips x ∨ v = cvtWordMars x) :=
  ⟨_, _, h, onlyFpr_setF_advance s fd _, rfl, cvtWord_eq_mips_or_mars x⟩

section Candidates
variable (a : Bool) (m : Nat) (e : Int)

/-- The mips32 candidate is the nearest integer where a word holds it. -/
theorem cvtWordMips_fin :
    cvtWordMips (.fin a m e) =
      if -2 ^ 31 ≤ roundToInt .nearestEven a m e ∧ roundToInt .nearestEven a m e ≤ 2 ^ 31 - 1
      then BitVec.ofInt 32 (roundToInt .nearestEven a m e) else 0x7FFFFFFF := by
  rw [cvtWordMips, toWord]
  split
  case isTrue hout => rw [if_neg (by omega)]
  case isFalse hin =>
    rw [if_pos (by omega)]
    rfl

theorem roundToInt_towardZero_eq_ite :
    roundToInt .towardZero a m e = if a then ⌈finiteValue a m e⌉ else ⌊finiteValue a m e⌋ := by
  rw [roundToInt_towardZero, roundToInt_towardPosInf, roundToInt_towardNegInf]

/-- The mars candidate is the truncation, saturated on both sides. -/
theorem cvtWordMars_fin {n : Int} (hn : n = if a then ⌈finiteValue a m e⌉ else ⌊finiteValue a m e⌋) :
    cvtWordMars (.fin a m e) =
      if 2 ^ 31 - 1 < n then 0x7FFFFFFF else if n < -2 ^ 31 then 0x80000000 else BitVec.ofInt 32 n := by
  obtain rfl := hn.trans (roundToInt_towardZero_eq_ite a m e).symm
  rfl

variable {a m e} {n : Int}

/-- Two integers within half a unit are one. -/
theorem roundToInt_nearestEven_of_eq_intCast (hvalue : finiteValue a m e = n) : roundToInt .nearestEven a m e = n := by
  obtain ⟨hnear, -⟩ := roundToInt_nearestEven a m e
  rw [hvalue, ← Int.cast_sub, ← Int.cast_abs] at hnear
  have hlt : |n - roundToInt .nearestEven a m e| < 1 := by
    exact_mod_cast hnear.trans_lt (by norm_num : (1 / 2 : ℚ) < 1)
  exact (sub_eq_zero.mp (Int.abs_lt_one_iff.mp hlt)).symm

/-- On an integer that a word holds, both candidates give that word. -/
theorem cvtWord_candidates_of_eq_intCast (hvalue : finiteValue a m e = n) (hlo : -2 ^ 31 ≤ n) (hhi : n ≤ 2 ^ 31 - 1) :
    cvtWordMips (.fin a m e) = BitVec.ofInt 32 n ∧ cvtWordMars (.fin a m e) = BitVec.ofInt 32 n := by
  have htruncate : n = if a then ⌈finiteValue a m e⌉ else ⌊finiteValue a m e⌋ := by
    rw [hvalue, Int.ceil_intCast, Int.floor_intCast, ite_self]
  constructor
  · rw [cvtWordMips_fin, roundToInt_nearestEven_of_eq_intCast hvalue, if_pos ⟨hlo, hhi⟩]
  · rw [cvtWordMars_fin a m e htruncate, if_neg hhi.not_gt, if_neg hlo.not_gt]

end Candidates

/-- Settles O58: the instructions write `cvtWord` of the operand, which is one of the two candidates; the integer of the mips32
candidate is `roundToInt .nearestEven`. -/
theorem convertToWordOpenMode : Obligations.ConvertToWordOpenMode := by
  refine ⟨fun s fd fs => ?instructions, fun a m e => ?mips, fun a m e n => cvtWordMars_fin a m e, rfl, fun _ => rfl, rfl,
    rfl, rfl, fun a m e n => cvtWord_candidates_of_eq_intCast⟩
  case instructions =>
    refine ⟨completes_cvtWord rfl, fun hfs => completes_cvtWord ?_⟩
    exact withEven_of_forall_even (by simp [hfs])
  case mips =>
    obtain ⟨hnear, htie⟩ := roundToInt_nearestEven a m e
    exact ⟨_, hnear, htie, cvtWordMips_fin a m e⟩

/-! ### Moves (R310 to R323) -/

/-- An instruction that updates the state to `u` under a condition completes in both cases: with what the update does (`p`), or
with the default advance alone. -/
theorem completes_update_or_onlyPc {s u : State} {i : Instr} {c : Prop} [Decidable c] {p : State → Prop}
    (h : exec i s = .next (if c then u else s).advance) (hu : p u.advance) (hdraws : u.draws = s.draws) :
    ∃ t, exec i s = .next t ∧ t.draws = s.draws ∧ if c then p t else OnlyPc s t (s.pc + 4) := by
  refine ⟨_, h, ?_⟩
  by_cases hc : c
  · rw [if_pos hc, if_pos hc]
    exact ⟨hdraws, hu⟩
  · rw [if_neg hc, if_neg hc]
    exact ⟨rfl, onlyPc_advance s⟩

theorem completes_onlyFpr_or_onlyPc {s : State} {r : Reg} {v : Word} {i : Instr} {c : Prop} [Decidable c]
    (h : exec i s = .next (if c then s.setF r v else s).advance) :
    ∃ t, exec i s = .next t ∧ t.draws = s.draws ∧ if c then OnlyFpr s t r v else OnlyPc s t (s.pc + 4) :=
  completes_update_or_onlyPc h (onlyFpr_setF_advance s r v) rfl

theorem completes_onlyPair_or_onlyPc {s : State} {r : Reg} {v : DWord} {i : Instr} {c : Prop} [Decidable c]
    (h : exec i s = .next (if c then s.setD r v else s).advance) :
    ∃ t, exec i s = .next t ∧ t.draws = s.draws ∧ if c then OnlyPair s t r v else OnlyPc s t (s.pc + 4) :=
  completes_update_or_onlyPc h (onlyPair_setD_advance s r v) rfl

/-- Settles O60: each is a write of one register or pair, or such a write under a condition; the double forms are so once the
check of their register numbers is passed. -/
theorem floatMoves : Obligations.FloatMoves := by
  refine ⟨fun s fd fs rt cc => ⟨?movS, ?mfc1, ?mtc1, ?movfS, ?movtS, ?movnS, ?movzS⟩, fun s fd fs rt cc hfd hfs => ?double⟩
  case movS => exact completes_onlyFpr rfl
  case mfc1 => exact completes_onlyGpr rfl rfl
  case mtc1 => exact completes_onlyFpr rfl
  case movfS => exact completes_onlyFpr_or_onlyPc (c := s.flag cc = false) rfl
  case movtS => exact completes_onlyFpr_or_onlyPc (c := s.flag cc = true) rfl
  case movnS => exact completes_onlyFpr_or_onlyPc (c := s.x rt ≠ 0) rfl
  case movzS => exact completes_onlyFpr_or_onlyPc (c := s.x rt = 0) rfl
  case double =>
    have goesOn (k : Result) : withEven [fd, fs] k = k := withEven_of_forall_even (by simp [hfd, hfs])
    refine ⟨?movD, ?movfD, ?movtD, ?movnD, ?movzD⟩
    case movD => exact ⟨_, goesOn _, onlyPair_setD_advance s fd _, rfl⟩
    case movfD => exact completes_onlyPair_or_onlyPc (c := s.flag cc = false) (goesOn _)
    case movtD => exact completes_onlyPair_or_onlyPc (c := s.flag cc = true) (goesOn _)
    case movnD => exact completes_onlyPair_or_onlyPc (c := s.x rt ≠ 0) (goesOn _)
    case movzD => exact completes_onlyPair_or_onlyPc (c := s.x rt = 0) (goesOn _)

end Sys2Proof.Machine
end

section
/-! Trap entry and the refusal of a nested exception (60_exceptions.md R340, R350, R351, R353, R386). -/

namespace Sys2Proof.Machine

/-- While EXL is 0 an exception is taken, with a handler or without (R350, log 1). -/
theorem raise_taken {e : Exc} {s : State} (hexl : s.exl = false) : ∃ t, raise e s = .next t := by
  cases ha : s.launch.excHandler with
  | some a => exact ⟨_, raise_of_handler hexl ha⟩
  | none => exact ⟨_, raise_of_none hexl ha⟩

/-- Settles O41: the codes of R340 and the offending addresses are the model's, and the entry is taken with a handler or without. -/
theorem trapEntry : Obligations.TrapEntry := by
  intro s e hexl code bad
  have hcode : e.code.toNat = code := by cases e <;> rfl
  have hbad : e.badVAddrAfter s.badVAddr = bad := by cases e <;> rfl
  rw [← hcode, ← hbad]
  exact ⟨fun _ ha => raise_enters_handler hexl ha, fun ha => raise_ends_run hexl ha⟩

/-- Settles O42: Status bit 1 is EXL, which decides between the refusal and the entry. -/
theorem nestedException : Obligations.NestedException :=
  fun _ _ => ⟨fun hexl => raise_of_exl hexl, fun hexl => raise_taken hexl⟩

end Sys2Proof.Machine
end
